-- ==== Sys2Proof/Word.lean ====
section
/-! DEFINITION. The word types of the block (spec/00_scope.md rule R7): bytes and 16-bit addresses. -/

namespace Sys2Proof

/-- The data path and the 8-bit cells (rule R7). -/
abbrev Byte := BitVec 8

/-- Addresses and the 16-bit registers (rule R7). -/
abbrev Addr := BitVec 16

end Sys2Proof
end

