-- ==== Sys2Proof/Machine/Bits.lean ====
section
/-! DEFINITION. Byte order, halves of 16-bit registers and sign extension (spec/00_scope.md rule R9,
spec/10_state.md rule R22, spec/20_memory.md rule R72). -/

namespace Sys2Proof.Machine

/-- `lo(v) = v[7:0]` (rule R9). -/
def lo (v : Addr) : Byte := v.extractLsb' 0 8

/-- `hi(v) = v[15:8]` (rule R9). -/
def hi (v : Addr) : Byte := v.extractLsb' 8 8

/-- `{h, l}`: the 16-bit value with high byte `h` and low byte `l` (rules R9, R72). -/
def pair (h l : Byte) : Addr := h ++ l

/-- A write of the low cell of a 16-bit view (rule R22). -/
def setLo (v : Addr) (b : Byte) : Addr := pair (hi v) b

/-- A write of the high cell of a 16-bit view (rule R22). -/
def setHi (v : Addr) (b : Byte) : Addr := pair b (lo v)

/-- `zext_16(v)` (rule R9). -/
def zext16 (v : Byte) : Addr := v.setWidth 16

/-- `sext8_16(v)` (rule R9). -/
def sext16 (v : Byte) : Addr := v.signExtend 16

/-- One bit as a number, for sums and differences that widen. -/
def carryNat (c : Bool) : Nat := if c then 1 else 0

end Sys2Proof.Machine
end

