-- ==== Sys2Proof/Machine/Opcodes.lean ====
section
/-! DEFINITION. The opcode matrix (spec/30_encoding.md rule R134): which mnemonic and addressing mode each of the
256 opcode values has. The engine's tags select an opcode's behaviour from it (spec/40_engine.md rules R176 to R178). -/

namespace Sys2Proof.Machine

/-- The mnemonics of rule R134. -/
inductive Mnemonic
  | adc
  | alr
  | anc
  | and
  | ane
  | arr
  | asl
  | bcc
  | bcs
  | beq
  | bit
  | bmi
  | bne
  | bpl
  | brk
  | bvc
  | bvs
  | clc
  | cld
  | cli
  | clv
  | cmp
  | cpx
  | cpy
  | dcp
  | dec
  | dex
  | dey
  | eor
  | inc
  | inx
  | iny
  | isc
  | jam
  | jmp
  | jsr
  | las
  | lax
  | lda
  | ldx
  | ldy
  | lsr
  | lxa
  | nop
  | ora
  | pha
  | php
  | pla
  | plp
  | rla
  | rol
  | ror
  | rra
  | rti
  | rts
  | sax
  | sbc
  | sbx
  | sec
  | sed
  | sei
  | sha
  | shx
  | shy
  | slo
  | sre
  | sta
  | stx
  | sty
  | tas
  | tax
  | tay
  | tsx
  | txa
  | txs
  | tya
  | usbc
  deriving DecidableEq, Repr

/-- The addressing modes (rule R133). -/
inductive Mode
  | imp
  | acc
  | imm
  | zp
  | zpx
  | zpy
  | abs
  | abx
  | aby
  | izx
  | izy
  | ind
  | rel
  deriving DecidableEq, Repr

/-- Row 0x of the matrix (rule R134). -/
def matrixRow0 : List (Mnemonic × Mode) :=
  [(.brk, .imp), (.ora, .izx), (.jam, .imp), (.slo, .izx), (.nop, .zp), (.ora, .zp), (.asl, .zp), (.slo, .zp),
   (.php, .imp), (.ora, .imm), (.asl, .acc), (.anc, .imm), (.nop, .abs), (.ora, .abs), (.asl, .abs), (.slo, .abs)]

/-- Row 1x of the matrix (rule R134). -/
def matrixRow1 : List (Mnemonic × Mode) :=
  [(.bpl, .rel), (.ora, .izy), (.jam, .imp), (.slo, .izy), (.nop, .zpx), (.ora, .zpx), (.asl, .zpx), (.slo, .zpx),
   (.clc, .imp), (.ora, .aby), (.nop, .imp), (.slo, .aby), (.nop, .abx), (.ora, .abx), (.asl, .abx), (.slo, .abx)]

/-- Row 2x of the matrix (rule R134). -/
def matrixRow2 : List (Mnemonic × Mode) :=
  [(.jsr, .abs), (.and, .izx), (.jam, .imp), (.rla, .izx), (.bit, .zp), (.and, .zp), (.rol, .zp), (.rla, .zp),
   (.plp, .imp), (.and, .imm), (.rol, .acc), (.anc, .imm), (.bit, .abs), (.and, .abs), (.rol, .abs), (.rla, .abs)]

/-- Row 3x of the matrix (rule R134). -/
def matrixRow3 : List (Mnemonic × Mode) :=
  [(.bmi, .rel), (.and, .izy), (.jam, .imp), (.rla, .izy), (.nop, .zpx), (.and, .zpx), (.rol, .zpx), (.rla, .zpx),
   (.sec, .imp), (.and, .aby), (.nop, .imp), (.rla, .aby), (.nop, .abx), (.and, .abx), (.rol, .abx), (.rla, .abx)]

/-- Row 4x of the matrix (rule R134). -/
def matrixRow4 : List (Mnemonic × Mode) :=
  [(.rti, .imp), (.eor, .izx), (.jam, .imp), (.sre, .izx), (.nop, .zp), (.eor, .zp), (.lsr, .zp), (.sre, .zp),
   (.pha, .imp), (.eor, .imm), (.lsr, .acc), (.alr, .imm), (.jmp, .abs), (.eor, .abs), (.lsr, .abs), (.sre, .abs)]

/-- Row 5x of the matrix (rule R134). -/
def matrixRow5 : List (Mnemonic × Mode) :=
  [(.bvc, .rel), (.eor, .izy), (.jam, .imp), (.sre, .izy), (.nop, .zpx), (.eor, .zpx), (.lsr, .zpx), (.sre, .zpx),
   (.cli, .imp), (.eor, .aby), (.nop, .imp), (.sre, .aby), (.nop, .abx), (.eor, .abx), (.lsr, .abx), (.sre, .abx)]

/-- Row 6x of the matrix (rule R134). -/
def matrixRow6 : List (Mnemonic × Mode) :=
  [(.rts, .imp), (.adc, .izx), (.jam, .imp), (.rra, .izx), (.nop, .zp), (.adc, .zp), (.ror, .zp), (.rra, .zp),
   (.pla, .imp), (.adc, .imm), (.ror, .acc), (.arr, .imm), (.jmp, .ind), (.adc, .abs), (.ror, .abs), (.rra, .abs)]

/-- Row 7x of the matrix (rule R134). -/
def matrixRow7 : List (Mnemonic × Mode) :=
  [(.bvs, .rel), (.adc, .izy), (.jam, .imp), (.rra, .izy), (.nop, .zpx), (.adc, .zpx), (.ror, .zpx), (.rra, .zpx),
   (.sei, .imp), (.adc, .aby), (.nop, .imp), (.rra, .aby), (.nop, .abx), (.adc, .abx), (.ror, .abx), (.rra, .abx)]

/-- Row 8x of the matrix (rule R134). -/
def matrixRow8 : List (Mnemonic × Mode) :=
  [(.nop, .imm), (.sta, .izx), (.nop, .imm), (.sax, .izx), (.sty, .zp), (.sta, .zp), (.stx, .zp), (.sax, .zp),
   (.dey, .imp), (.nop, .imm), (.txa, .imp), (.ane, .imm), (.sty, .abs), (.sta, .abs), (.stx, .abs), (.sax, .abs)]

/-- Row 9x of the matrix (rule R134). -/
def matrixRow9 : List (Mnemonic × Mode) :=
  [(.bcc, .rel), (.sta, .izy), (.jam, .imp), (.sha, .izy), (.sty, .zpx), (.sta, .zpx), (.stx, .zpy), (.sax, .zpy),
   (.tya, .imp), (.sta, .aby), (.txs, .imp), (.tas, .aby), (.shy, .abx), (.sta, .abx), (.shx, .aby), (.sha, .aby)]

/-- Row Ax of the matrix (rule R134). -/
def matrixRowA : List (Mnemonic × Mode) :=
  [(.ldy, .imm), (.lda, .izx), (.ldx, .imm), (.lax, .izx), (.ldy, .zp), (.lda, .zp), (.ldx, .zp), (.lax, .zp),
   (.tay, .imp), (.lda, .imm), (.tax, .imp), (.lxa, .imm), (.ldy, .abs), (.lda, .abs), (.ldx, .abs), (.lax, .abs)]

/-- Row Bx of the matrix (rule R134). -/
def matrixRowB : List (Mnemonic × Mode) :=
  [(.bcs, .rel), (.lda, .izy), (.jam, .imp), (.lax, .izy), (.ldy, .zpx), (.lda, .zpx), (.ldx, .zpy), (.lax, .zpy),
   (.clv, .imp), (.lda, .aby), (.tsx, .imp), (.las, .aby), (.ldy, .abx), (.lda, .abx), (.ldx, .aby), (.lax, .aby)]

/-- Row Cx of the matrix (rule R134). -/
def matrixRowC : List (Mnemonic × Mode) :=
  [(.cpy, .imm), (.cmp, .izx), (.nop, .imm), (.dcp, .izx), (.cpy, .zp), (.cmp, .zp), (.dec, .zp), (.dcp, .zp),
   (.iny, .imp), (.cmp, .imm), (.dex, .imp), (.sbx, .imm), (.cpy, .abs), (.cmp, .abs), (.dec, .abs), (.dcp, .abs)]

/-- Row Dx of the matrix (rule R134). -/
def matrixRowD : List (Mnemonic × Mode) :=
  [(.bne, .rel), (.cmp, .izy), (.jam, .imp), (.dcp, .izy), (.nop, .zpx), (.cmp, .zpx), (.dec, .zpx), (.dcp, .zpx),
   (.cld, .imp), (.cmp, .aby), (.nop, .imp), (.dcp, .aby), (.nop, .abx), (.cmp, .abx), (.dec, .abx), (.dcp, .abx)]

/-- Row Ex of the matrix (rule R134). -/
def matrixRowE : List (Mnemonic × Mode) :=
  [(.cpx, .imm), (.sbc, .izx), (.nop, .imm), (.isc, .izx), (.cpx, .zp), (.sbc, .zp), (.inc, .zp), (.isc, .zp),
   (.inx, .imp), (.sbc, .imm), (.nop, .imp), (.usbc, .imm), (.cpx, .abs), (.sbc, .abs), (.inc, .abs), (.isc, .abs)]

/-- Row Fx of the matrix (rule R134). -/
def matrixRowF : List (Mnemonic × Mode) :=
  [(.beq, .rel), (.sbc, .izy), (.jam, .imp), (.isc, .izy), (.nop, .zpx), (.sbc, .zpx), (.inc, .zpx), (.isc, .zpx),
   (.sed, .imp), (.sbc, .aby), (.nop, .imp), (.isc, .aby), (.nop, .abx), (.sbc, .abx), (.inc, .abx), (.isc, .abx)]

/-- The opcode matrix (rule R134), 256 entries in opcode order. -/
def opcodeMatrix : List (Mnemonic × Mode) :=
  matrixRow0 ++ matrixRow1 ++ matrixRow2 ++ matrixRow3 ++
  matrixRow4 ++ matrixRow5 ++ matrixRow6 ++ matrixRow7 ++
  matrixRow8 ++ matrixRow9 ++ matrixRowA ++ matrixRowB ++
  matrixRowC ++ matrixRowD ++ matrixRowE ++ matrixRowF

/-- The mnemonic and mode of an opcode (rule R134). -/
def opcodeForm (op : Byte) : Mnemonic × Mode := opcodeMatrix.getD op.toNat (.nop, .imp)

/-- The mnemonic of an opcode (rule R134). -/
def mnemonicOf (op : Byte) : Mnemonic := (opcodeForm op).1

/-- The addressing mode of an opcode (rule R134). -/
def modeOf (op : Byte) : Mode := (opcodeForm op).2

/-- The number of operand bytes of a mode: formats F1, F2, F3 (rule R131). -/
def Mode.operandBytes : Mode → Nat
  | .imp => 0
  | .acc => 0
  | .imm => 1
  | .zp => 1
  | .zpx => 1
  | .zpy => 1
  | .abs => 2
  | .abx => 2
  | .aby => 2
  | .izx => 1
  | .izy => 1
  | .ind => 2
  | .rel => 1

end Sys2Proof.Machine
end

