-- ==== Sys2Proof/Syntax.lean ====
section
/-! DEFINITION. The syntax of the instruction set: one constructor for each row of spec/opcode_table.json,
with the operand of its format (spec/30_encoding.md rules R131 to R134), and the reset pseudo-opcode (R143,
R146). The instructions with an operand stand first, then those without, each in opcode order (Lean compiles at most
244 constructors with fields). A constructor is named by its mnemonic and mode, with the opcode where several opcodes
share both. -/

namespace Sys2Proof

/-- An instruction. -/
inductive Instr
  /-- 01: ORA izx (R284). -/
  | oraIzx (zp : Byte)
  /-- 03: SLO izx (R370). -/
  | sloIzx (zp : Byte)
  /-- 04: NOP zp (R390). -/
  | nopZp04 (zp : Byte)
  /-- 05: ORA zp (R284). -/
  | oraZp (zp : Byte)
  /-- 06: ASL zp (R304). -/
  | aslZp (zp : Byte)
  /-- 07: SLO zp (R370). -/
  | sloZp (zp : Byte)
  /-- 09: ORA imm (R284). -/
  | oraImm (v : Byte)
  /-- 0B: ANC imm (R378). -/
  | ancImm0B (v : Byte)
  /-- 0C: NOP abs (R390). -/
  | nopAbs (addr : Addr)
  /-- 0D: ORA abs (R284). -/
  | oraAbs (addr : Addr)
  /-- 0E: ASL abs (R304). -/
  | aslAbs (addr : Addr)
  /-- 0F: SLO abs (R370). -/
  | sloAbs (addr : Addr)
  /-- 10: BPL rel (R325). -/
  | bplRel (disp : Byte)
  /-- 11: ORA izy (R284). -/
  | oraIzy (zp : Byte)
  /-- 13: SLO izy (R370). -/
  | sloIzy (zp : Byte)
  /-- 14: NOP zpx (R390). -/
  | nopZpx14 (zp : Byte)
  /-- 15: ORA zpx (R284). -/
  | oraZpx (zp : Byte)
  /-- 16: ASL zpx (R304). -/
  | aslZpx (zp : Byte)
  /-- 17: SLO zpx (R370). -/
  | sloZpx (zp : Byte)
  /-- 19: ORA aby (R284). -/
  | oraAby (addr : Addr)
  /-- 1B: SLO aby (R370). -/
  | sloAby (addr : Addr)
  /-- 1C: NOP abx (R390). -/
  | nopAbx1C (addr : Addr)
  /-- 1D: ORA abx (R284). -/
  | oraAbx (addr : Addr)
  /-- 1E: ASL abx (R304). -/
  | aslAbx (addr : Addr)
  /-- 1F: SLO abx (R370). -/
  | sloAbx (addr : Addr)
  /-- 20: JSR abs (R321). -/
  | jsrAbs (addr : Addr)
  /-- 21: AND izx (R285). -/
  | andIzx (zp : Byte)
  /-- 23: RLA izx (R371). -/
  | rlaIzx (zp : Byte)
  /-- 24: BIT zp (R292). -/
  | bitZp (zp : Byte)
  /-- 25: AND zp (R285). -/
  | andZp (zp : Byte)
  /-- 26: ROL zp (R306). -/
  | rolZp (zp : Byte)
  /-- 27: RLA zp (R371). -/
  | rlaZp (zp : Byte)
  /-- 29: AND imm (R285). -/
  | andImm (v : Byte)
  /-- 2B: ANC imm (R378). -/
  | ancImm2B (v : Byte)
  /-- 2C: BIT abs (R292). -/
  | bitAbs (addr : Addr)
  /-- 2D: AND abs (R285). -/
  | andAbs (addr : Addr)
  /-- 2E: ROL abs (R306). -/
  | rolAbs (addr : Addr)
  /-- 2F: RLA abs (R371). -/
  | rlaAbs (addr : Addr)
  /-- 30: BMI rel (R326). -/
  | bmiRel (disp : Byte)
  /-- 31: AND izy (R285). -/
  | andIzy (zp : Byte)
  /-- 33: RLA izy (R371). -/
  | rlaIzy (zp : Byte)
  /-- 34: NOP zpx (R390). -/
  | nopZpx34 (zp : Byte)
  /-- 35: AND zpx (R285). -/
  | andZpx (zp : Byte)
  /-- 36: ROL zpx (R306). -/
  | rolZpx (zp : Byte)
  /-- 37: RLA zpx (R371). -/
  | rlaZpx (zp : Byte)
  /-- 39: AND aby (R285). -/
  | andAby (addr : Addr)
  /-- 3B: RLA aby (R371). -/
  | rlaAby (addr : Addr)
  /-- 3C: NOP abx (R390). -/
  | nopAbx3C (addr : Addr)
  /-- 3D: AND abx (R285). -/
  | andAbx (addr : Addr)
  /-- 3E: ROL abx (R306). -/
  | rolAbx (addr : Addr)
  /-- 3F: RLA abx (R371). -/
  | rlaAbx (addr : Addr)
  /-- 41: EOR izx (R286). -/
  | eorIzx (zp : Byte)
  /-- 43: SRE izx (R372). -/
  | sreIzx (zp : Byte)
  /-- 44: NOP zp (R390). -/
  | nopZp44 (zp : Byte)
  /-- 45: EOR zp (R286). -/
  | eorZp (zp : Byte)
  /-- 46: LSR zp (R305). -/
  | lsrZp (zp : Byte)
  /-- 47: SRE zp (R372). -/
  | sreZp (zp : Byte)
  /-- 49: EOR imm (R286). -/
  | eorImm (v : Byte)
  /-- 4B: ALR imm (R379). -/
  | alrImm (v : Byte)
  /-- 4C: JMP abs (R320). -/
  | jmpAbs (addr : Addr)
  /-- 4D: EOR abs (R286). -/
  | eorAbs (addr : Addr)
  /-- 4E: LSR abs (R305). -/
  | lsrAbs (addr : Addr)
  /-- 4F: SRE abs (R372). -/
  | sreAbs (addr : Addr)
  /-- 50: BVC rel (R327). -/
  | bvcRel (disp : Byte)
  /-- 51: EOR izy (R286). -/
  | eorIzy (zp : Byte)
  /-- 53: SRE izy (R372). -/
  | sreIzy (zp : Byte)
  /-- 54: NOP zpx (R390). -/
  | nopZpx54 (zp : Byte)
  /-- 55: EOR zpx (R286). -/
  | eorZpx (zp : Byte)
  /-- 56: LSR zpx (R305). -/
  | lsrZpx (zp : Byte)
  /-- 57: SRE zpx (R372). -/
  | sreZpx (zp : Byte)
  /-- 59: EOR aby (R286). -/
  | eorAby (addr : Addr)
  /-- 5B: SRE aby (R372). -/
  | sreAby (addr : Addr)
  /-- 5C: NOP abx (R390). -/
  | nopAbx5C (addr : Addr)
  /-- 5D: EOR abx (R286). -/
  | eorAbx (addr : Addr)
  /-- 5E: LSR abx (R305). -/
  | lsrAbx (addr : Addr)
  /-- 5F: SRE abx (R372). -/
  | sreAbx (addr : Addr)
  /-- 61: ADC izx (R287). -/
  | adcIzx (zp : Byte)
  /-- 63: RRA izx (R373). -/
  | rraIzx (zp : Byte)
  /-- 64: NOP zp (R390). -/
  | nopZp64 (zp : Byte)
  /-- 65: ADC zp (R287). -/
  | adcZp (zp : Byte)
  /-- 66: ROR zp (R307). -/
  | rorZp (zp : Byte)
  /-- 67: RRA zp (R373). -/
  | rraZp (zp : Byte)
  /-- 69: ADC imm (R287). -/
  | adcImm (v : Byte)
  /-- 6B: ARR imm (R380). -/
  | arrImm (v : Byte)
  /-- 6C: JMP ind (R320). -/
  | jmpInd (addr : Addr)
  /-- 6D: ADC abs (R287). -/
  | adcAbs (addr : Addr)
  /-- 6E: ROR abs (R307). -/
  | rorAbs (addr : Addr)
  /-- 6F: RRA abs (R373). -/
  | rraAbs (addr : Addr)
  /-- 70: BVS rel (R328). -/
  | bvsRel (disp : Byte)
  /-- 71: ADC izy (R287). -/
  | adcIzy (zp : Byte)
  /-- 73: RRA izy (R373). -/
  | rraIzy (zp : Byte)
  /-- 74: NOP zpx (R390). -/
  | nopZpx74 (zp : Byte)
  /-- 75: ADC zpx (R287). -/
  | adcZpx (zp : Byte)
  /-- 76: ROR zpx (R307). -/
  | rorZpx (zp : Byte)
  /-- 77: RRA zpx (R373). -/
  | rraZpx (zp : Byte)
  /-- 79: ADC aby (R287). -/
  | adcAby (addr : Addr)
  /-- 7B: RRA aby (R373). -/
  | rraAby (addr : Addr)
  /-- 7C: NOP abx (R390). -/
  | nopAbx7C (addr : Addr)
  /-- 7D: ADC abx (R287). -/
  | adcAbx (addr : Addr)
  /-- 7E: ROR abx (R307). -/
  | rorAbx (addr : Addr)
  /-- 7F: RRA abx (R373). -/
  | rraAbx (addr : Addr)
  /-- 80: NOP imm (R390). -/
  | nopImm80 (v : Byte)
  /-- 81: STA izx (R263). -/
  | staIzx (zp : Byte)
  /-- 82: NOP imm (R390). -/
  | nopImm82 (v : Byte)
  /-- 83: SAX izx (R374). -/
  | saxIzx (zp : Byte)
  /-- 84: STY zp (R265). -/
  | styZp (zp : Byte)
  /-- 85: STA zp (R263). -/
  | staZp (zp : Byte)
  /-- 86: STX zp (R264). -/
  | stxZp (zp : Byte)
  /-- 87: SAX zp (R374). -/
  | saxZp (zp : Byte)
  /-- 89: NOP imm (R390). -/
  | nopImm89 (v : Byte)
  /-- 8B: ANE imm (R381). -/
  | aneImm (v : Byte)
  /-- 8C: STY abs (R265). -/
  | styAbs (addr : Addr)
  /-- 8D: STA abs (R263). -/
  | staAbs (addr : Addr)
  /-- 8E: STX abs (R264). -/
  | stxAbs (addr : Addr)
  /-- 8F: SAX abs (R374). -/
  | saxAbs (addr : Addr)
  /-- 90: BCC rel (R329). -/
  | bccRel (disp : Byte)
  /-- 91: STA izy (R263). -/
  | staIzy (zp : Byte)
  /-- 93: SHA izy (R387). -/
  | shaIzy (zp : Byte)
  /-- 94: STY zpx (R265). -/
  | styZpx (zp : Byte)
  /-- 95: STA zpx (R263). -/
  | staZpx (zp : Byte)
  /-- 96: STX zpy (R264). -/
  | stxZpy (zp : Byte)
  /-- 97: SAX zpy (R374). -/
  | saxZpy (zp : Byte)
  /-- 99: STA aby (R263). -/
  | staAby (addr : Addr)
  /-- 9B: TAS aby (R386). -/
  | tasAby (addr : Addr)
  /-- 9C: SHY abx (R389). -/
  | shyAbx (addr : Addr)
  /-- 9D: STA abx (R263). -/
  | staAbx (addr : Addr)
  /-- 9E: SHX aby (R388). -/
  | shxAby (addr : Addr)
  /-- 9F: SHA aby (R387). -/
  | shaAby (addr : Addr)
  /-- A0: LDY imm (R262). -/
  | ldyImm (v : Byte)
  /-- A1: LDA izx (R260). -/
  | ldaIzx (zp : Byte)
  /-- A2: LDX imm (R261). -/
  | ldxImm (v : Byte)
  /-- A3: LAX izx (R375). -/
  | laxIzx (zp : Byte)
  /-- A4: LDY zp (R262). -/
  | ldyZp (zp : Byte)
  /-- A5: LDA zp (R260). -/
  | ldaZp (zp : Byte)
  /-- A6: LDX zp (R261). -/
  | ldxZp (zp : Byte)
  /-- A7: LAX zp (R375). -/
  | laxZp (zp : Byte)
  /-- A9: LDA imm (R260). -/
  | ldaImm (v : Byte)
  /-- AB: LXA imm (R382). -/
  | lxaImm (v : Byte)
  /-- AC: LDY abs (R262). -/
  | ldyAbs (addr : Addr)
  /-- AD: LDA abs (R260). -/
  | ldaAbs (addr : Addr)
  /-- AE: LDX abs (R261). -/
  | ldxAbs (addr : Addr)
  /-- AF: LAX abs (R375). -/
  | laxAbs (addr : Addr)
  /-- B0: BCS rel (R330). -/
  | bcsRel (disp : Byte)
  /-- B1: LDA izy (R260). -/
  | ldaIzy (zp : Byte)
  /-- B3: LAX izy (R375). -/
  | laxIzy (zp : Byte)
  /-- B4: LDY zpx (R262). -/
  | ldyZpx (zp : Byte)
  /-- B5: LDA zpx (R260). -/
  | ldaZpx (zp : Byte)
  /-- B6: LDX zpy (R261). -/
  | ldxZpy (zp : Byte)
  /-- B7: LAX zpy (R375). -/
  | laxZpy (zp : Byte)
  /-- B9: LDA aby (R260). -/
  | ldaAby (addr : Addr)
  /-- BB: LAS aby (R385). -/
  | lasAby (addr : Addr)
  /-- BC: LDY abx (R262). -/
  | ldyAbx (addr : Addr)
  /-- BD: LDA abx (R260). -/
  | ldaAbx (addr : Addr)
  /-- BE: LDX aby (R261). -/
  | ldxAby (addr : Addr)
  /-- BF: LAX aby (R375). -/
  | laxAby (addr : Addr)
  /-- C0: CPY imm (R291). -/
  | cpyImm (v : Byte)
  /-- C1: CMP izx (R289). -/
  | cmpIzx (zp : Byte)
  /-- C2: NOP imm (R390). -/
  | nopImmC2 (v : Byte)
  /-- C3: DCP izx (R376). -/
  | dcpIzx (zp : Byte)
  /-- C4: CPY zp (R291). -/
  | cpyZp (zp : Byte)
  /-- C5: CMP zp (R289). -/
  | cmpZp (zp : Byte)
  /-- C6: DEC zp (R309). -/
  | decZp (zp : Byte)
  /-- C7: DCP zp (R376). -/
  | dcpZp (zp : Byte)
  /-- C9: CMP imm (R289). -/
  | cmpImm (v : Byte)
  /-- CB: SBX imm (R383). -/
  | sbxImm (v : Byte)
  /-- CC: CPY abs (R291). -/
  | cpyAbs (addr : Addr)
  /-- CD: CMP abs (R289). -/
  | cmpAbs (addr : Addr)
  /-- CE: DEC abs (R309). -/
  | decAbs (addr : Addr)
  /-- CF: DCP abs (R376). -/
  | dcpAbs (addr : Addr)
  /-- D0: BNE rel (R331). -/
  | bneRel (disp : Byte)
  /-- D1: CMP izy (R289). -/
  | cmpIzy (zp : Byte)
  /-- D3: DCP izy (R376). -/
  | dcpIzy (zp : Byte)
  /-- D4: NOP zpx (R390). -/
  | nopZpxD4 (zp : Byte)
  /-- D5: CMP zpx (R289). -/
  | cmpZpx (zp : Byte)
  /-- D6: DEC zpx (R309). -/
  | decZpx (zp : Byte)
  /-- D7: DCP zpx (R376). -/
  | dcpZpx (zp : Byte)
  /-- D9: CMP aby (R289). -/
  | cmpAby (addr : Addr)
  /-- DB: DCP aby (R376). -/
  | dcpAby (addr : Addr)
  /-- DC: NOP abx (R390). -/
  | nopAbxDC (addr : Addr)
  /-- DD: CMP abx (R289). -/
  | cmpAbx (addr : Addr)
  /-- DE: DEC abx (R309). -/
  | decAbx (addr : Addr)
  /-- DF: DCP abx (R376). -/
  | dcpAbx (addr : Addr)
  /-- E0: CPX imm (R290). -/
  | cpxImm (v : Byte)
  /-- E1: SBC izx (R288). -/
  | sbcIzx (zp : Byte)
  /-- E2: NOP imm (R390). -/
  | nopImmE2 (v : Byte)
  /-- E3: ISC izx (R377). -/
  | iscIzx (zp : Byte)
  /-- E4: CPX zp (R290). -/
  | cpxZp (zp : Byte)
  /-- E5: SBC zp (R288). -/
  | sbcZp (zp : Byte)
  /-- E6: INC zp (R308). -/
  | incZp (zp : Byte)
  /-- E7: ISC zp (R377). -/
  | iscZp (zp : Byte)
  /-- E9: SBC imm (R288). -/
  | sbcImm (v : Byte)
  /-- EB: USBC imm (R384). -/
  | usbcImm (v : Byte)
  /-- EC: CPX abs (R290). -/
  | cpxAbs (addr : Addr)
  /-- ED: SBC abs (R288). -/
  | sbcAbs (addr : Addr)
  /-- EE: INC abs (R308). -/
  | incAbs (addr : Addr)
  /-- EF: ISC abs (R377). -/
  | iscAbs (addr : Addr)
  /-- F0: BEQ rel (R332). -/
  | beqRel (disp : Byte)
  /-- F1: SBC izy (R288). -/
  | sbcIzy (zp : Byte)
  /-- F3: ISC izy (R377). -/
  | iscIzy (zp : Byte)
  /-- F4: NOP zpx (R390). -/
  | nopZpxF4 (zp : Byte)
  /-- F5: SBC zpx (R288). -/
  | sbcZpx (zp : Byte)
  /-- F6: INC zpx (R308). -/
  | incZpx (zp : Byte)
  /-- F7: ISC zpx (R377). -/
  | iscZpx (zp : Byte)
  /-- F9: SBC aby (R288). -/
  | sbcAby (addr : Addr)
  /-- FB: ISC aby (R377). -/
  | iscAby (addr : Addr)
  /-- FC: NOP abx (R390). -/
  | nopAbxFC (addr : Addr)
  /-- FD: SBC abx (R288). -/
  | sbcAbx (addr : Addr)
  /-- FE: INC abx (R308). -/
  | incAbx (addr : Addr)
  /-- FF: ISC abx (R377). -/
  | iscAbx (addr : Addr)
  /-- 00: BRK imp (R324). -/
  | brk
  /-- 02: JAM imp (R391). -/
  | jam02
  /-- 08: PHP imp (R351). -/
  | php
  /-- 0A: ASL acc (R304). -/
  | aslAcc
  /-- 12: JAM imp (R391). -/
  | jam12
  /-- 18: CLC imp (R354). -/
  | clc
  /-- 1A: NOP imp (R390). -/
  | nopImp1A
  /-- 22: JAM imp (R391). -/
  | jam22
  /-- 28: PLP imp (R353). -/
  | plp
  /-- 2A: ROL acc (R306). -/
  | rolAcc
  /-- 32: JAM imp (R391). -/
  | jam32
  /-- 38: SEC imp (R355). -/
  | sec
  /-- 3A: NOP imp (R390). -/
  | nopImp3A
  /-- 40: RTI imp (R323). -/
  | rti
  /-- 42: JAM imp (R391). -/
  | jam42
  /-- 48: PHA imp (R350). -/
  | pha
  /-- 4A: LSR acc (R305). -/
  | lsrAcc
  /-- 52: JAM imp (R391). -/
  | jam52
  /-- 58: CLI imp (R356). -/
  | cli
  /-- 5A: NOP imp (R390). -/
  | nopImp5A
  /-- 60: RTS imp (R322). -/
  | rts
  /-- 62: JAM imp (R391). -/
  | jam62
  /-- 68: PLA imp (R352). -/
  | pla
  /-- 6A: ROR acc (R307). -/
  | rorAcc
  /-- 72: JAM imp (R391). -/
  | jam72
  /-- 78: SEI imp (R357). -/
  | sei
  /-- 7A: NOP imp (R390). -/
  | nopImp7A
  /-- 88: DEY imp (R313). -/
  | dey
  /-- 8A: TXA imp (R268). -/
  | txa
  /-- 92: JAM imp (R391). -/
  | jam92
  /-- 98: TYA imp (R269). -/
  | tya
  /-- 9A: TXS imp (R271). -/
  | txs
  /-- A8: TAY imp (R267). -/
  | tay
  /-- AA: TAX imp (R266). -/
  | tax
  /-- B2: JAM imp (R391). -/
  | jamB2
  /-- B8: CLV imp (R360). -/
  | clv
  /-- BA: TSX imp (R270). -/
  | tsx
  /-- C8: INY imp (R311). -/
  | iny
  /-- CA: DEX imp (R312). -/
  | dex
  /-- D2: JAM imp (R391). -/
  | jamD2
  /-- D8: CLD imp (R358). -/
  | cld
  /-- DA: NOP imp (R390). -/
  | nopImpDA
  /-- E8: INX imp (R310). -/
  | inx
  /-- EA: NOP imp (R361). -/
  | nopImpEA
  /-- F2: JAM imp (R391). -/
  | jamF2
  /-- F8: SED imp (R359). -/
  | sed
  /-- FA: NOP imp (R390). -/
  | nopImpFA
  /-- The reset pseudo-opcode, entry 256 of `OPC_START` (R143, R472); no program can write it (R146). -/
  | reset
  deriving DecidableEq, Repr

end Sys2Proof
end

