-- ==== Sys2Proof/WellFormed.lean ====
section
/-! DEFINITION. The instructions a program can write. Every operand value is legal for every opcode
(spec/30_encoding.md rule R137) and the operand types admit no other; the reset pseudo-opcode "is not an
instruction a program can write" (rule R146). -/

namespace Sys2Proof

/-- A program can write the instruction: it is one of the 256 opcodes, not the reset pseudo-opcode (rule R146). -/
def Instr.wellFormed (i : Instr) : Bool := decide (i ≠ Instr.reset)

end Sys2Proof
end

