-- ==== Sys2Proof/Decode.lean ====
section
/-! DEFINITION. The decoder, total on any bytes, and the encoder (spec/30_encoding.md rules R130 to R134). The
operand of a three-byte instruction is little-endian (spec/20_memory.md rule R72). -/

namespace Sys2Proof

/-- Why bytes are no instruction. Every opcode value is defined (rule R137), so only their number can be wrong. -/
inductive DecodeError
  /-- There is no opcode byte; safe. -/
  | noBytes
  /-- Fewer operand bytes follow than the opcode's mode takes (rule R131); safe. -/
  | truncated (need have_ : Nat)
  deriving DecidableEq, Repr

/-- The instructions of opcodes 00 to 0F, from their two possible operand bytes (rule R134). -/
def decodeRow0 : List (Byte → Byte → Instr) := [
  fun _ _ => .brk,
  fun b _ => .oraIzx b,
  fun _ _ => .jam02,
  fun b _ => .sloIzx b,
  fun b _ => .nopZp04 b,
  fun b _ => .oraZp b,
  fun b _ => .aslZp b,
  fun b _ => .sloZp b,
  fun _ _ => .php,
  fun b _ => .oraImm b,
  fun _ _ => .aslAcc,
  fun b _ => .ancImm0B b,
  fun l h => .nopAbs (Machine.pair h l),
  fun l h => .oraAbs (Machine.pair h l),
  fun l h => .aslAbs (Machine.pair h l),
  fun l h => .sloAbs (Machine.pair h l)]

/-- The instructions of opcodes 10 to 1F, from their two possible operand bytes (rule R134). -/
def decodeRow1 : List (Byte → Byte → Instr) := [
  fun b _ => .bplRel b,
  fun b _ => .oraIzy b,
  fun _ _ => .jam12,
  fun b _ => .sloIzy b,
  fun b _ => .nopZpx14 b,
  fun b _ => .oraZpx b,
  fun b _ => .aslZpx b,
  fun b _ => .sloZpx b,
  fun _ _ => .clc,
  fun l h => .oraAby (Machine.pair h l),
  fun _ _ => .nopImp1A,
  fun l h => .sloAby (Machine.pair h l),
  fun l h => .nopAbx1C (Machine.pair h l),
  fun l h => .oraAbx (Machine.pair h l),
  fun l h => .aslAbx (Machine.pair h l),
  fun l h => .sloAbx (Machine.pair h l)]

/-- The instructions of opcodes 20 to 2F, from their two possible operand bytes (rule R134). -/
def decodeRow2 : List (Byte → Byte → Instr) := [
  fun l h => .jsrAbs (Machine.pair h l),
  fun b _ => .andIzx b,
  fun _ _ => .jam22,
  fun b _ => .rlaIzx b,
  fun b _ => .bitZp b,
  fun b _ => .andZp b,
  fun b _ => .rolZp b,
  fun b _ => .rlaZp b,
  fun _ _ => .plp,
  fun b _ => .andImm b,
  fun _ _ => .rolAcc,
  fun b _ => .ancImm2B b,
  fun l h => .bitAbs (Machine.pair h l),
  fun l h => .andAbs (Machine.pair h l),
  fun l h => .rolAbs (Machine.pair h l),
  fun l h => .rlaAbs (Machine.pair h l)]

/-- The instructions of opcodes 30 to 3F, from their two possible operand bytes (rule R134). -/
def decodeRow3 : List (Byte → Byte → Instr) := [
  fun b _ => .bmiRel b,
  fun b _ => .andIzy b,
  fun _ _ => .jam32,
  fun b _ => .rlaIzy b,
  fun b _ => .nopZpx34 b,
  fun b _ => .andZpx b,
  fun b _ => .rolZpx b,
  fun b _ => .rlaZpx b,
  fun _ _ => .sec,
  fun l h => .andAby (Machine.pair h l),
  fun _ _ => .nopImp3A,
  fun l h => .rlaAby (Machine.pair h l),
  fun l h => .nopAbx3C (Machine.pair h l),
  fun l h => .andAbx (Machine.pair h l),
  fun l h => .rolAbx (Machine.pair h l),
  fun l h => .rlaAbx (Machine.pair h l)]

/-- The instructions of opcodes 40 to 4F, from their two possible operand bytes (rule R134). -/
def decodeRow4 : List (Byte → Byte → Instr) := [
  fun _ _ => .rti,
  fun b _ => .eorIzx b,
  fun _ _ => .jam42,
  fun b _ => .sreIzx b,
  fun b _ => .nopZp44 b,
  fun b _ => .eorZp b,
  fun b _ => .lsrZp b,
  fun b _ => .sreZp b,
  fun _ _ => .pha,
  fun b _ => .eorImm b,
  fun _ _ => .lsrAcc,
  fun b _ => .alrImm b,
  fun l h => .jmpAbs (Machine.pair h l),
  fun l h => .eorAbs (Machine.pair h l),
  fun l h => .lsrAbs (Machine.pair h l),
  fun l h => .sreAbs (Machine.pair h l)]

/-- The instructions of opcodes 50 to 5F, from their two possible operand bytes (rule R134). -/
def decodeRow5 : List (Byte → Byte → Instr) := [
  fun b _ => .bvcRel b,
  fun b _ => .eorIzy b,
  fun _ _ => .jam52,
  fun b _ => .sreIzy b,
  fun b _ => .nopZpx54 b,
  fun b _ => .eorZpx b,
  fun b _ => .lsrZpx b,
  fun b _ => .sreZpx b,
  fun _ _ => .cli,
  fun l h => .eorAby (Machine.pair h l),
  fun _ _ => .nopImp5A,
  fun l h => .sreAby (Machine.pair h l),
  fun l h => .nopAbx5C (Machine.pair h l),
  fun l h => .eorAbx (Machine.pair h l),
  fun l h => .lsrAbx (Machine.pair h l),
  fun l h => .sreAbx (Machine.pair h l)]

/-- The instructions of opcodes 60 to 6F, from their two possible operand bytes (rule R134). -/
def decodeRow6 : List (Byte → Byte → Instr) := [
  fun _ _ => .rts,
  fun b _ => .adcIzx b,
  fun _ _ => .jam62,
  fun b _ => .rraIzx b,
  fun b _ => .nopZp64 b,
  fun b _ => .adcZp b,
  fun b _ => .rorZp b,
  fun b _ => .rraZp b,
  fun _ _ => .pla,
  fun b _ => .adcImm b,
  fun _ _ => .rorAcc,
  fun b _ => .arrImm b,
  fun l h => .jmpInd (Machine.pair h l),
  fun l h => .adcAbs (Machine.pair h l),
  fun l h => .rorAbs (Machine.pair h l),
  fun l h => .rraAbs (Machine.pair h l)]

/-- The instructions of opcodes 70 to 7F, from their two possible operand bytes (rule R134). -/
def decodeRow7 : List (Byte → Byte → Instr) := [
  fun b _ => .bvsRel b,
  fun b _ => .adcIzy b,
  fun _ _ => .jam72,
  fun b _ => .rraIzy b,
  fun b _ => .nopZpx74 b,
  fun b _ => .adcZpx b,
  fun b _ => .rorZpx b,
  fun b _ => .rraZpx b,
  fun _ _ => .sei,
  fun l h => .adcAby (Machine.pair h l),
  fun _ _ => .nopImp7A,
  fun l h => .rraAby (Machine.pair h l),
  fun l h => .nopAbx7C (Machine.pair h l),
  fun l h => .adcAbx (Machine.pair h l),
  fun l h => .rorAbx (Machine.pair h l),
  fun l h => .rraAbx (Machine.pair h l)]

/-- The instructions of opcodes 80 to 8F, from their two possible operand bytes (rule R134). -/
def decodeRow8 : List (Byte → Byte → Instr) := [
  fun b _ => .nopImm80 b,
  fun b _ => .staIzx b,
  fun b _ => .nopImm82 b,
  fun b _ => .saxIzx b,
  fun b _ => .styZp b,
  fun b _ => .staZp b,
  fun b _ => .stxZp b,
  fun b _ => .saxZp b,
  fun _ _ => .dey,
  fun b _ => .nopImm89 b,
  fun _ _ => .txa,
  fun b _ => .aneImm b,
  fun l h => .styAbs (Machine.pair h l),
  fun l h => .staAbs (Machine.pair h l),
  fun l h => .stxAbs (Machine.pair h l),
  fun l h => .saxAbs (Machine.pair h l)]

/-- The instructions of opcodes 90 to 9F, from their two possible operand bytes (rule R134). -/
def decodeRow9 : List (Byte → Byte → Instr) := [
  fun b _ => .bccRel b,
  fun b _ => .staIzy b,
  fun _ _ => .jam92,
  fun b _ => .shaIzy b,
  fun b _ => .styZpx b,
  fun b _ => .staZpx b,
  fun b _ => .stxZpy b,
  fun b _ => .saxZpy b,
  fun _ _ => .tya,
  fun l h => .staAby (Machine.pair h l),
  fun _ _ => .txs,
  fun l h => .tasAby (Machine.pair h l),
  fun l h => .shyAbx (Machine.pair h l),
  fun l h => .staAbx (Machine.pair h l),
  fun l h => .shxAby (Machine.pair h l),
  fun l h => .shaAby (Machine.pair h l)]

/-- The instructions of opcodes A0 to AF, from their two possible operand bytes (rule R134). -/
def decodeRowA : List (Byte → Byte → Instr) := [
  fun b _ => .ldyImm b,
  fun b _ => .ldaIzx b,
  fun b _ => .ldxImm b,
  fun b _ => .laxIzx b,
  fun b _ => .ldyZp b,
  fun b _ => .ldaZp b,
  fun b _ => .ldxZp b,
  fun b _ => .laxZp b,
  fun _ _ => .tay,
  fun b _ => .ldaImm b,
  fun _ _ => .tax,
  fun b _ => .lxaImm b,
  fun l h => .ldyAbs (Machine.pair h l),
  fun l h => .ldaAbs (Machine.pair h l),
  fun l h => .ldxAbs (Machine.pair h l),
  fun l h => .laxAbs (Machine.pair h l)]

/-- The instructions of opcodes B0 to BF, from their two possible operand bytes (rule R134). -/
def decodeRowB : List (Byte → Byte → Instr) := [
  fun b _ => .bcsRel b,
  fun b _ => .ldaIzy b,
  fun _ _ => .jamB2,
  fun b _ => .laxIzy b,
  fun b _ => .ldyZpx b,
  fun b _ => .ldaZpx b,
  fun b _ => .ldxZpy b,
  fun b _ => .laxZpy b,
  fun _ _ => .clv,
  fun l h => .ldaAby (Machine.pair h l),
  fun _ _ => .tsx,
  fun l h => .lasAby (Machine.pair h l),
  fun l h => .ldyAbx (Machine.pair h l),
  fun l h => .ldaAbx (Machine.pair h l),
  fun l h => .ldxAby (Machine.pair h l),
  fun l h => .laxAby (Machine.pair h l)]

/-- The instructions of opcodes C0 to CF, from their two possible operand bytes (rule R134). -/
def decodeRowC : List (Byte → Byte → Instr) := [
  fun b _ => .cpyImm b,
  fun b _ => .cmpIzx b,
  fun b _ => .nopImmC2 b,
  fun b _ => .dcpIzx b,
  fun b _ => .cpyZp b,
  fun b _ => .cmpZp b,
  fun b _ => .decZp b,
  fun b _ => .dcpZp b,
  fun _ _ => .iny,
  fun b _ => .cmpImm b,
  fun _ _ => .dex,
  fun b _ => .sbxImm b,
  fun l h => .cpyAbs (Machine.pair h l),
  fun l h => .cmpAbs (Machine.pair h l),
  fun l h => .decAbs (Machine.pair h l),
  fun l h => .dcpAbs (Machine.pair h l)]

/-- The instructions of opcodes D0 to DF, from their two possible operand bytes (rule R134). -/
def decodeRowD : List (Byte → Byte → Instr) := [
  fun b _ => .bneRel b,
  fun b _ => .cmpIzy b,
  fun _ _ => .jamD2,
  fun b _ => .dcpIzy b,
  fun b _ => .nopZpxD4 b,
  fun b _ => .cmpZpx b,
  fun b _ => .decZpx b,
  fun b _ => .dcpZpx b,
  fun _ _ => .cld,
  fun l h => .cmpAby (Machine.pair h l),
  fun _ _ => .nopImpDA,
  fun l h => .dcpAby (Machine.pair h l),
  fun l h => .nopAbxDC (Machine.pair h l),
  fun l h => .cmpAbx (Machine.pair h l),
  fun l h => .decAbx (Machine.pair h l),
  fun l h => .dcpAbx (Machine.pair h l)]

/-- The instructions of opcodes E0 to EF, from their two possible operand bytes (rule R134). -/
def decodeRowE : List (Byte → Byte → Instr) := [
  fun b _ => .cpxImm b,
  fun b _ => .sbcIzx b,
  fun b _ => .nopImmE2 b,
  fun b _ => .iscIzx b,
  fun b _ => .cpxZp b,
  fun b _ => .sbcZp b,
  fun b _ => .incZp b,
  fun b _ => .iscZp b,
  fun _ _ => .inx,
  fun b _ => .sbcImm b,
  fun _ _ => .nopImpEA,
  fun b _ => .usbcImm b,
  fun l h => .cpxAbs (Machine.pair h l),
  fun l h => .sbcAbs (Machine.pair h l),
  fun l h => .incAbs (Machine.pair h l),
  fun l h => .iscAbs (Machine.pair h l)]

/-- The instructions of opcodes F0 to FF, from their two possible operand bytes (rule R134). -/
def decodeRowF : List (Byte → Byte → Instr) := [
  fun b _ => .beqRel b,
  fun b _ => .sbcIzy b,
  fun _ _ => .jamF2,
  fun b _ => .iscIzy b,
  fun b _ => .nopZpxF4 b,
  fun b _ => .sbcZpx b,
  fun b _ => .incZpx b,
  fun b _ => .iscZpx b,
  fun _ _ => .sed,
  fun l h => .sbcAby (Machine.pair h l),
  fun _ _ => .nopImpFA,
  fun l h => .iscAby (Machine.pair h l),
  fun l h => .nopAbxFC (Machine.pair h l),
  fun l h => .sbcAbx (Machine.pair h l),
  fun l h => .incAbx (Machine.pair h l),
  fun l h => .iscAbx (Machine.pair h l)]

/-- The instructions of the 256 opcodes, in opcode order (rule R134). -/
def decodeRows : List (Byte → Byte → Instr) :=
  decodeRow0 ++ decodeRow1 ++ decodeRow2 ++ decodeRow3 ++
  decodeRow4 ++ decodeRow5 ++ decodeRow6 ++ decodeRow7 ++
  decodeRow8 ++ decodeRow9 ++ decodeRowA ++ decodeRowB ++
  decodeRowC ++ decodeRowD ++ decodeRowE ++ decodeRowF

/-- The instruction with opcode `op` and operand bytes `b1`, `b2`, as many as its mode takes (rules R131, R132). -/
def decodeForm (op b1 b2 : Byte) : Instr := (decodeRows.getD op.toNat (fun _ _ => Instr.brk)) b1 b2

/-- How many operand bytes follow opcode `op` (rules R131, R134). -/
def operandCount (op : Byte) : Nat := (Machine.modeOf op).operandBytes

/-- The instruction at the head of the bytes, with the bytes after it (rules R130, R137). -/
def decode : List Byte → Except DecodeError (Instr × List Byte)
  | [] => .error .noBytes
  | op :: rest =>
    if rest.length < operandCount op then .error (.truncated (operandCount op) rest.length)
    else .ok (decodeForm op (rest.getD 0 0) (rest.getD 1 0), rest.drop (operandCount op))

/-- Byte `k` of a number of bits numbered as spec/opcode_table.json numbers them. -/
def wordByte (w k : Nat) : Byte := BitVec.ofNat 8 (w / 256 ^ k)

/-- The three bytes of an instruction whose bits are `w`, the bits from `nbits` up being 0. -/
def wordBytes (nbits w : Nat) : List Byte :=
  let v := w % 2 ^ nbits
  [wordByte v 0, wordByte v 1, wordByte v 2]

/-- The instruction the decoder reads from an instruction of `nbits` bits `w`; the reset pseudo-opcode has no
bits and is not read. -/
def decodeTableWord (nbits w : Nat) : Option Instr :=
  if nbits = 0 then none
  else match decode (wordBytes nbits w) with
    | .ok r => some r.1
    | .error _ => none

/-- The bytes of an instruction, opcode first (rules R130, R131, R134). The reset pseudo-opcode has none (rule R146). -/
def encode : Instr → List Byte
  | .brk => [0x00]
  | .oraIzx zp => [0x01, zp]
  | .jam02 => [0x02]
  | .sloIzx zp => [0x03, zp]
  | .nopZp04 zp => [0x04, zp]
  | .oraZp zp => [0x05, zp]
  | .aslZp zp => [0x06, zp]
  | .sloZp zp => [0x07, zp]
  | .php => [0x08]
  | .oraImm v => [0x09, v]
  | .aslAcc => [0x0A]
  | .ancImm0B v => [0x0B, v]
  | .nopAbs addr => [0x0C, Machine.lo addr, Machine.hi addr]
  | .oraAbs addr => [0x0D, Machine.lo addr, Machine.hi addr]
  | .aslAbs addr => [0x0E, Machine.lo addr, Machine.hi addr]
  | .sloAbs addr => [0x0F, Machine.lo addr, Machine.hi addr]
  | .bplRel disp => [0x10, disp]
  | .oraIzy zp => [0x11, zp]
  | .jam12 => [0x12]
  | .sloIzy zp => [0x13, zp]
  | .nopZpx14 zp => [0x14, zp]
  | .oraZpx zp => [0x15, zp]
  | .aslZpx zp => [0x16, zp]
  | .sloZpx zp => [0x17, zp]
  | .clc => [0x18]
  | .oraAby addr => [0x19, Machine.lo addr, Machine.hi addr]
  | .nopImp1A => [0x1A]
  | .sloAby addr => [0x1B, Machine.lo addr, Machine.hi addr]
  | .nopAbx1C addr => [0x1C, Machine.lo addr, Machine.hi addr]
  | .oraAbx addr => [0x1D, Machine.lo addr, Machine.hi addr]
  | .aslAbx addr => [0x1E, Machine.lo addr, Machine.hi addr]
  | .sloAbx addr => [0x1F, Machine.lo addr, Machine.hi addr]
  | .jsrAbs addr => [0x20, Machine.lo addr, Machine.hi addr]
  | .andIzx zp => [0x21, zp]
  | .jam22 => [0x22]
  | .rlaIzx zp => [0x23, zp]
  | .bitZp zp => [0x24, zp]
  | .andZp zp => [0x25, zp]
  | .rolZp zp => [0x26, zp]
  | .rlaZp zp => [0x27, zp]
  | .plp => [0x28]
  | .andImm v => [0x29, v]
  | .rolAcc => [0x2A]
  | .ancImm2B v => [0x2B, v]
  | .bitAbs addr => [0x2C, Machine.lo addr, Machine.hi addr]
  | .andAbs addr => [0x2D, Machine.lo addr, Machine.hi addr]
  | .rolAbs addr => [0x2E, Machine.lo addr, Machine.hi addr]
  | .rlaAbs addr => [0x2F, Machine.lo addr, Machine.hi addr]
  | .bmiRel disp => [0x30, disp]
  | .andIzy zp => [0x31, zp]
  | .jam32 => [0x32]
  | .rlaIzy zp => [0x33, zp]
  | .nopZpx34 zp => [0x34, zp]
  | .andZpx zp => [0x35, zp]
  | .rolZpx zp => [0x36, zp]
  | .rlaZpx zp => [0x37, zp]
  | .sec => [0x38]
  | .andAby addr => [0x39, Machine.lo addr, Machine.hi addr]
  | .nopImp3A => [0x3A]
  | .rlaAby addr => [0x3B, Machine.lo addr, Machine.hi addr]
  | .nopAbx3C addr => [0x3C, Machine.lo addr, Machine.hi addr]
  | .andAbx addr => [0x3D, Machine.lo addr, Machine.hi addr]
  | .rolAbx addr => [0x3E, Machine.lo addr, Machine.hi addr]
  | .rlaAbx addr => [0x3F, Machine.lo addr, Machine.hi addr]
  | .rti => [0x40]
  | .eorIzx zp => [0x41, zp]
  | .jam42 => [0x42]
  | .sreIzx zp => [0x43, zp]
  | .nopZp44 zp => [0x44, zp]
  | .eorZp zp => [0x45, zp]
  | .lsrZp zp => [0x46, zp]
  | .sreZp zp => [0x47, zp]
  | .pha => [0x48]
  | .eorImm v => [0x49, v]
  | .lsrAcc => [0x4A]
  | .alrImm v => [0x4B, v]
  | .jmpAbs addr => [0x4C, Machine.lo addr, Machine.hi addr]
  | .eorAbs addr => [0x4D, Machine.lo addr, Machine.hi addr]
  | .lsrAbs addr => [0x4E, Machine.lo addr, Machine.hi addr]
  | .sreAbs addr => [0x4F, Machine.lo addr, Machine.hi addr]
  | .bvcRel disp => [0x50, disp]
  | .eorIzy zp => [0x51, zp]
  | .jam52 => [0x52]
  | .sreIzy zp => [0x53, zp]
  | .nopZpx54 zp => [0x54, zp]
  | .eorZpx zp => [0x55, zp]
  | .lsrZpx zp => [0x56, zp]
  | .sreZpx zp => [0x57, zp]
  | .cli => [0x58]
  | .eorAby addr => [0x59, Machine.lo addr, Machine.hi addr]
  | .nopImp5A => [0x5A]
  | .sreAby addr => [0x5B, Machine.lo addr, Machine.hi addr]
  | .nopAbx5C addr => [0x5C, Machine.lo addr, Machine.hi addr]
  | .eorAbx addr => [0x5D, Machine.lo addr, Machine.hi addr]
  | .lsrAbx addr => [0x5E, Machine.lo addr, Machine.hi addr]
  | .sreAbx addr => [0x5F, Machine.lo addr, Machine.hi addr]
  | .rts => [0x60]
  | .adcIzx zp => [0x61, zp]
  | .jam62 => [0x62]
  | .rraIzx zp => [0x63, zp]
  | .nopZp64 zp => [0x64, zp]
  | .adcZp zp => [0x65, zp]
  | .rorZp zp => [0x66, zp]
  | .rraZp zp => [0x67, zp]
  | .pla => [0x68]
  | .adcImm v => [0x69, v]
  | .rorAcc => [0x6A]
  | .arrImm v => [0x6B, v]
  | .jmpInd addr => [0x6C, Machine.lo addr, Machine.hi addr]
  | .adcAbs addr => [0x6D, Machine.lo addr, Machine.hi addr]
  | .rorAbs addr => [0x6E, Machine.lo addr, Machine.hi addr]
  | .rraAbs addr => [0x6F, Machine.lo addr, Machine.hi addr]
  | .bvsRel disp => [0x70, disp]
  | .adcIzy zp => [0x71, zp]
  | .jam72 => [0x72]
  | .rraIzy zp => [0x73, zp]
  | .nopZpx74 zp => [0x74, zp]
  | .adcZpx zp => [0x75, zp]
  | .rorZpx zp => [0x76, zp]
  | .rraZpx zp => [0x77, zp]
  | .sei => [0x78]
  | .adcAby addr => [0x79, Machine.lo addr, Machine.hi addr]
  | .nopImp7A => [0x7A]
  | .rraAby addr => [0x7B, Machine.lo addr, Machine.hi addr]
  | .nopAbx7C addr => [0x7C, Machine.lo addr, Machine.hi addr]
  | .adcAbx addr => [0x7D, Machine.lo addr, Machine.hi addr]
  | .rorAbx addr => [0x7E, Machine.lo addr, Machine.hi addr]
  | .rraAbx addr => [0x7F, Machine.lo addr, Machine.hi addr]
  | .nopImm80 v => [0x80, v]
  | .staIzx zp => [0x81, zp]
  | .nopImm82 v => [0x82, v]
  | .saxIzx zp => [0x83, zp]
  | .styZp zp => [0x84, zp]
  | .staZp zp => [0x85, zp]
  | .stxZp zp => [0x86, zp]
  | .saxZp zp => [0x87, zp]
  | .dey => [0x88]
  | .nopImm89 v => [0x89, v]
  | .txa => [0x8A]
  | .aneImm v => [0x8B, v]
  | .styAbs addr => [0x8C, Machine.lo addr, Machine.hi addr]
  | .staAbs addr => [0x8D, Machine.lo addr, Machine.hi addr]
  | .stxAbs addr => [0x8E, Machine.lo addr, Machine.hi addr]
  | .saxAbs addr => [0x8F, Machine.lo addr, Machine.hi addr]
  | .bccRel disp => [0x90, disp]
  | .staIzy zp => [0x91, zp]
  | .jam92 => [0x92]
  | .shaIzy zp => [0x93, zp]
  | .styZpx zp => [0x94, zp]
  | .staZpx zp => [0x95, zp]
  | .stxZpy zp => [0x96, zp]
  | .saxZpy zp => [0x97, zp]
  | .tya => [0x98]
  | .staAby addr => [0x99, Machine.lo addr, Machine.hi addr]
  | .txs => [0x9A]
  | .tasAby addr => [0x9B, Machine.lo addr, Machine.hi addr]
  | .shyAbx addr => [0x9C, Machine.lo addr, Machine.hi addr]
  | .staAbx addr => [0x9D, Machine.lo addr, Machine.hi addr]
  | .shxAby addr => [0x9E, Machine.lo addr, Machine.hi addr]
  | .shaAby addr => [0x9F, Machine.lo addr, Machine.hi addr]
  | .ldyImm v => [0xA0, v]
  | .ldaIzx zp => [0xA1, zp]
  | .ldxImm v => [0xA2, v]
  | .laxIzx zp => [0xA3, zp]
  | .ldyZp zp => [0xA4, zp]
  | .ldaZp zp => [0xA5, zp]
  | .ldxZp zp => [0xA6, zp]
  | .laxZp zp => [0xA7, zp]
  | .tay => [0xA8]
  | .ldaImm v => [0xA9, v]
  | .tax => [0xAA]
  | .lxaImm v => [0xAB, v]
  | .ldyAbs addr => [0xAC, Machine.lo addr, Machine.hi addr]
  | .ldaAbs addr => [0xAD, Machine.lo addr, Machine.hi addr]
  | .ldxAbs addr => [0xAE, Machine.lo addr, Machine.hi addr]
  | .laxAbs addr => [0xAF, Machine.lo addr, Machine.hi addr]
  | .bcsRel disp => [0xB0, disp]
  | .ldaIzy zp => [0xB1, zp]
  | .jamB2 => [0xB2]
  | .laxIzy zp => [0xB3, zp]
  | .ldyZpx zp => [0xB4, zp]
  | .ldaZpx zp => [0xB5, zp]
  | .ldxZpy zp => [0xB6, zp]
  | .laxZpy zp => [0xB7, zp]
  | .clv => [0xB8]
  | .ldaAby addr => [0xB9, Machine.lo addr, Machine.hi addr]
  | .tsx => [0xBA]
  | .lasAby addr => [0xBB, Machine.lo addr, Machine.hi addr]
  | .ldyAbx addr => [0xBC, Machine.lo addr, Machine.hi addr]
  | .ldaAbx addr => [0xBD, Machine.lo addr, Machine.hi addr]
  | .ldxAby addr => [0xBE, Machine.lo addr, Machine.hi addr]
  | .laxAby addr => [0xBF, Machine.lo addr, Machine.hi addr]
  | .cpyImm v => [0xC0, v]
  | .cmpIzx zp => [0xC1, zp]
  | .nopImmC2 v => [0xC2, v]
  | .dcpIzx zp => [0xC3, zp]
  | .cpyZp zp => [0xC4, zp]
  | .cmpZp zp => [0xC5, zp]
  | .decZp zp => [0xC6, zp]
  | .dcpZp zp => [0xC7, zp]
  | .iny => [0xC8]
  | .cmpImm v => [0xC9, v]
  | .dex => [0xCA]
  | .sbxImm v => [0xCB, v]
  | .cpyAbs addr => [0xCC, Machine.lo addr, Machine.hi addr]
  | .cmpAbs addr => [0xCD, Machine.lo addr, Machine.hi addr]
  | .decAbs addr => [0xCE, Machine.lo addr, Machine.hi addr]
  | .dcpAbs addr => [0xCF, Machine.lo addr, Machine.hi addr]
  | .bneRel disp => [0xD0, disp]
  | .cmpIzy zp => [0xD1, zp]
  | .jamD2 => [0xD2]
  | .dcpIzy zp => [0xD3, zp]
  | .nopZpxD4 zp => [0xD4, zp]
  | .cmpZpx zp => [0xD5, zp]
  | .decZpx zp => [0xD6, zp]
  | .dcpZpx zp => [0xD7, zp]
  | .cld => [0xD8]
  | .cmpAby addr => [0xD9, Machine.lo addr, Machine.hi addr]
  | .nopImpDA => [0xDA]
  | .dcpAby addr => [0xDB, Machine.lo addr, Machine.hi addr]
  | .nopAbxDC addr => [0xDC, Machine.lo addr, Machine.hi addr]
  | .cmpAbx addr => [0xDD, Machine.lo addr, Machine.hi addr]
  | .decAbx addr => [0xDE, Machine.lo addr, Machine.hi addr]
  | .dcpAbx addr => [0xDF, Machine.lo addr, Machine.hi addr]
  | .cpxImm v => [0xE0, v]
  | .sbcIzx zp => [0xE1, zp]
  | .nopImmE2 v => [0xE2, v]
  | .iscIzx zp => [0xE3, zp]
  | .cpxZp zp => [0xE4, zp]
  | .sbcZp zp => [0xE5, zp]
  | .incZp zp => [0xE6, zp]
  | .iscZp zp => [0xE7, zp]
  | .inx => [0xE8]
  | .sbcImm v => [0xE9, v]
  | .nopImpEA => [0xEA]
  | .usbcImm v => [0xEB, v]
  | .cpxAbs addr => [0xEC, Machine.lo addr, Machine.hi addr]
  | .sbcAbs addr => [0xED, Machine.lo addr, Machine.hi addr]
  | .incAbs addr => [0xEE, Machine.lo addr, Machine.hi addr]
  | .iscAbs addr => [0xEF, Machine.lo addr, Machine.hi addr]
  | .beqRel disp => [0xF0, disp]
  | .sbcIzy zp => [0xF1, zp]
  | .jamF2 => [0xF2]
  | .iscIzy zp => [0xF3, zp]
  | .nopZpxF4 zp => [0xF4, zp]
  | .sbcZpx zp => [0xF5, zp]
  | .incZpx zp => [0xF6, zp]
  | .iscZpx zp => [0xF7, zp]
  | .sed => [0xF8]
  | .sbcAby addr => [0xF9, Machine.lo addr, Machine.hi addr]
  | .nopImpFA => [0xFA]
  | .iscAby addr => [0xFB, Machine.lo addr, Machine.hi addr]
  | .nopAbxFC addr => [0xFC, Machine.lo addr, Machine.hi addr]
  | .sbcAbx addr => [0xFD, Machine.lo addr, Machine.hi addr]
  | .incAbx addr => [0xFE, Machine.lo addr, Machine.hi addr]
  | .iscAbx addr => [0xFF, Machine.lo addr, Machine.hi addr]
  | .reset => []

end Sys2Proof
end

