-- ==== Sys2Proof/Config.lean ====
section
/-! DEFINITION. What an implementation fixes and what the surroundings choose: the parameters of
spec/00_scope.md rule R8 and the free values of the model. An `opaque` constant has no body here, so
no theorem can depend on its value. -/

namespace Sys2Proof

/-- What answers a 1 KB block of the secondary system's memory map (spec/60_exceptions.md rule R457). -/
inductive DriveKind
  | rom
  | ram
  | chip1
  | chip2
  deriving DecidableEq, Repr, Inhabited

namespace Config

/-- `ROM_BASIC`, 8192 bytes, by offset from 0xA000 (rules R8, R90). Assumption 7. -/
opaque romBasic : BitVec 13 → Byte

/-- `ROM_KERNAL`, 8192 bytes, by offset from 0xE000 (rules R8, R90). Assumption 7. -/
opaque romKernal : BitVec 13 → Byte

/-- `ROM_CHAR`, 4096 bytes, by offset from 0xD000 (rules R8, R90). Assumption 7. -/
opaque romChar : BitVec 12 → Byte

/-- `ANE_MAGIC`, open (rule R381, decision D29). Assumption 8. -/
opaque aneMagic : Byte

/-- `LXA_MAGIC`, open (rule R382, decision D29). Assumption 8. -/
opaque lxaMagic : Byte

/-- `BRK_TAIL_POLLS`: whether the dispatch that ends a break or reset sequence polls; the spec's
default (rule R205, decision D12). DESIGN CHOICE, assumption 9. -/
def brkTailPolls : Bool := false

/-- `SEC_DEN` (rule R8): the secondary system runs `SEC_DEN - 1` = 67 cycles in 68 primary ones. -/
abbrev secDen : Nat := 68

/-- `DRIVE_MAP`, open: the kind of each 1 KB block, by `addr[15:10]` (rule R457). Assumption 14. -/
opaque driveMap : BitVec 6 → DriveKind

/-- Contents of the secondary system's ROM as its processor sees them, by address. Assumption 14. -/
opaque driveRom : Addr → Byte

/-- The cell of the secondary system's RAM that an address of a `ram` block reaches: the
"heavy address mirroring" of rule R457, which the spec does not print. Assumption 14. -/
opaque driveRamCell : Addr → Addr

/-- FREE VALUE: the byte with which a device, cartridge window or disconnected region answers a read
made in system cycle `n` when no queued input says (rule R107). Assumption 3. -/
opaque deviceAnswer : Nat → Byte

/-- FREE VALUE: the levels of port pins 7..3 in system cycle `n` when no queued input says
(rule R92, `PORT_IN`). Assumption 3. -/
opaque portPins : Nat → BitVec 5

/-- FREE VALUE: the byte with which a chip of the secondary system answers in system cycle `n` when
no queued input says (rule R457). Assumption 3. -/
opaque driveAnswer : Nat → Byte

/-- FREE VALUE: what cell number `i` of the register file holds after a cold reset applied when the
model's clock is `n`, for the cells rule R470 leaves unspecified; the secondary system's cells are
numbered from 20. Assumption 6. -/
opaque powerOnCell : Nat → Nat → Byte

/-- FREE VALUE: the RAM contents after a cold reset applied when the model's clock is `n` (rule R470),
as (address, byte) pairs in any order. Assumption 6. -/
opaque powerOnRam : Nat → List (Addr × Byte)

/-- FREE VALUE: the same for the secondary system's RAM (rule R475). Assumption 6. -/
opaque drivePowerOnRam : Nat → List (Addr × Byte)

end Config

end Sys2Proof
end

