-- ==== Sys2Proof/Machine/Flags.lean ====
section
/-! DEFINITION. The flags of `P` (spec/10_state.md rules R30, R31) and every flag computation of the
instruction set (spec/42_alu.md rules R280 to R283, spec/43_shift_rmw.md rules R300 to R303,
spec/46_undocumented.md rules R378 to R383). Each computation takes `P` and gives the result with the
new `P`. -/

namespace Sys2Proof.Machine

/-- The eight flags (rule R30). -/
inductive Flag
  | n
  | v
  | u
  | b
  | d
  | i
  | z
  | c
  deriving DecidableEq, Repr

/-- The bit number of a flag (rule R30). -/
def Flag.bit : Flag → Nat
  | .n => 7
  | .v => 6
  | .u => 5
  | .b => 4
  | .d => 3
  | .i => 2
  | .z => 1
  | .c => 0

/-- The mask of a flag (rule R30). -/
def Flag.mask (f : Flag) : Byte := 1#8 <<< f.bit

/-- `P.f` (rule R10). -/
def flag (p : Byte) (f : Flag) : Bool := p.getLsbD f.bit

/-- `P.f <- on` (rule R10). -/
def setFlag (p : Byte) (f : Flag) (on : Bool) : Byte :=
  if on then p ||| f.mask else p &&& ~~~f.mask

/-- `P | 0x30`: `U` and `B` forced to 1 (rule R31). -/
def forceUB (p : Byte) : Byte := p ||| 0x30

/-- `set_nz(v)` (rule R280). -/
def setNZ (p v : Byte) : Byte := setFlag (setFlag p .n v.msb) .z (v = 0)

/-- `adc8(v)` with `P.D = 0` (rule R281): the new `A` and `P`. -/
def adcBinary (p a v : Byte) : Byte × Byte :=
  let t := a.toNat + v.toNat + carryNat (flag p .c)
  let r := BitVec.ofNat 8 t
  let overflow := ((a ^^^ r) &&& (v ^^^ r)).msb
  (r, setNZ (setFlag (setFlag p .v overflow) .c (t > 0xFF)) r)

/-- `adc8(v)` with `P.D = 1` (rule R281): `Z` from the binary sum, `N` and `V` after the low-nibble
adjustment and before the high one. -/
def adcDecimal (p a v : Byte) : Byte × Byte :=
  let c := carryNat (flag p .c)
  let al0 := a.toNat % 16 + v.toNat % 16 + c
  let al := if al0 > 9 then al0 + 6 else al0
  let ah0 := a.toNat / 16 + v.toNat / 16 + (if al > 0x0F then 1 else 0)
  let binary := BitVec.ofNat 8 (a.toNat + v.toNat + c)
  let mid := BitVec.ofNat 8 (ah0 * 16)
  let overflow := ((a ^^^ mid) &&& ~~~(a ^^^ v)).msb
  let ah := if ah0 > 9 then ah0 + 6 else ah0
  let p1 := setFlag p .z (binary = 0)
  let p2 := setFlag p1 .n (ah0.testBit 3)
  let p3 := setFlag p2 .v overflow
  let p4 := setFlag p3 .c (ah > 0x0F)
  (BitVec.ofNat 8 (ah * 16 + al % 16), p4)

/-- `adc8(v)` (rule R281). -/
def adc8 (p a v : Byte) : Byte × Byte :=
  if flag p .d then adcDecimal p a v else adcBinary p a v

/-- `t = a - v - (1 - c)`, the binary difference as an integer (rule R282). -/
def sbcDifference (p a v : Byte) : Int :=
  (a.toNat : Int) - v.toNat - (1 - carryNat (flag p .c))

/-- The decimal `A` of `sbc8(v)` (rule R282). -/
def sbcDecimalResult (p a v : Byte) : Byte :=
  let al0 : Int := ((a.toNat % 16 : Nat) : Int) - (v.toNat % 16 : Nat) + carryNat (flag p .c) - 1
  let al : Int := if al0 < 0 then (al0 - 6) % 16 - 0x10 else al0
  let r0 : Int := ((a.toNat / 16 * 16 : Nat) : Int) - (v.toNat / 16 * 16 : Nat) + al
  BitVec.ofInt 8 (if r0 < 0 then r0 - 0x60 else r0)

/-- `sbc8(v)` (rule R282): the four flags from the binary difference in both modes. -/
def sbc8 (p a v : Byte) : Byte × Byte :=
  let t := sbcDifference p a v
  let b := BitVec.ofInt 8 t
  let overflow := ((a ^^^ v) &&& (a ^^^ b)).msb
  let r := if flag p .d then sbcDecimalResult p a v else b
  (r, setNZ (setFlag (setFlag p .v overflow) .c (0 ≤ t)) b)

/-- `cmp8(r, v)` (rule R283): the new `P`. -/
def cmp8 (p r v : Byte) : Byte := setNZ (setFlag p .c (v.toNat ≤ r.toNat)) (r - v)

/-- The flags of BIT on operand `v` (rule R292). -/
def bitTest (p a v : Byte) : Byte :=
  setFlag (setFlag (setFlag p .z (a &&& v = 0)) .n (v.getLsbD 7)) .v (v.getLsbD 6)

/-- `asl8(v)` (rule R300): result and `P`. -/
def asl8 (p v : Byte) : Byte × Byte := (v <<< 1, setFlag p .c (v.getLsbD 7))

/-- `lsr8(v)` (rule R301). -/
def lsr8 (p v : Byte) : Byte × Byte := (v >>> 1, setFlag p .c (v.getLsbD 0))

/-- `rol8(v)` (rule R302). -/
def rol8 (p v : Byte) : Byte × Byte :=
  ((v <<< 1) ||| (if flag p .c then 0x01 else 0x00), setFlag p .c (v.getLsbD 7))

/-- `ror8(v)` (rule R303). -/
def ror8 (p v : Byte) : Byte × Byte :=
  ((v >>> 1) ||| (if flag p .c then 0x80 else 0x00), setFlag p .c (v.getLsbD 0))

/-- ARR with `P.D = 0` on `t = A & D` (rule R380). -/
def arrBinary (p t : Byte) : Byte × Byte :=
  let r := (t >>> 1) ||| (if flag p .c then 0x80 else 0x00)
  let p1 := setNZ p r
  let p2 := setFlag p1 .c (r.getLsbD 6)
  (r, setFlag p2 .v (r.getLsbD 6 ^^ r.getLsbD 5))

/-- ARR with `P.D = 1` on `t = A & D` (rule R380). -/
def arrDecimal (p t : Byte) : Byte × Byte :=
  let c := flag p .c
  let r := (t >>> 1) ||| (if c then 0x80 else 0x00)
  let p1 := setFlag (setFlag p .n c) .z (r = 0)
  let p2 := setFlag p1 .v ((t ^^^ r).getLsbD 6)
  let r1 := if (t &&& 0x0F).toNat + (t &&& 0x01).toNat > 5 then (r &&& 0xF0) ||| ((r + 6) &&& 0x0F) else r
  if (t &&& 0xF0).toNat + (t &&& 0x10).toNat > 0x50 then (r1 + 0x60, setFlag p2 .c true)
  else (r1, setFlag p2 .c false)

/-- ARR on `t = A & D` (rule R380). -/
def arr8 (p t : Byte) : Byte × Byte := if flag p .d then arrDecimal p t else arrBinary p t

/-- The subtraction of SBX: `t = (A & X) - D` (rule R383). -/
def sbx8 (p ax v : Byte) : Byte × Byte :=
  let r := ax - v
  (r, setNZ (setFlag p .c (v.toNat ≤ ax.toNat)) r)

end Sys2Proof.Machine
end

