-- ==== Sys2Proof/Machine/State.lean ====
section
/-! DEFINITION. The state of the block, as plain data (spec/10_state.md), its inputs (spec/40_engine.md
rule R171), its reset value (rule R55), and the reasons a step can stop. -/

namespace Sys2Proof.Machine

/-- The engine's micro-op ROM has 216 records (spec/30_encoding.md rule R144); `MCP` indexes it (rule R33). -/
abbrev Cursor := Fin 216

/-- A delay machine (rule R40): 0 idle, 1 requested and not yet usable, 2 usable at a boundary. -/
inductive Delay
  | idle
  | requested
  | usable
  deriving DecidableEq, Repr, Inhabited

/-- The engine: the register file of rules R20 to R32 with the fourteen paired cells stored as their
seven 16-bit views (rule R22), the cursor (R33) and the interrupt state (R40, R41). One value of this
type is one CPU instance. -/
structure Cpu where
  /-- `PC`, cells 0 and 1 (R25). -/
  pc : Addr
  /-- `SP`, cells 2 and 3 (R26). -/
  sp : Addr
  /-- `ZPA`, cells 4 and 5 (R27). -/
  zpa : Addr
  /-- `A1`, cells 6 and 7 (R28). -/
  a1 : Addr
  /-- `A2`, cells 8 and 9 (R28). -/
  a2 : Addr
  /-- `A3`, cells 10 and 11 (R28). -/
  a3 : Addr
  /-- `A4`, cells 12 and 13 (R28). -/
  a4 : Addr
  /-- `D`, the data cell 14 (R29). -/
  d : Byte
  /-- `IR`, cell 15 (R32). -/
  ir : Byte
  /-- `P`, cell 16 (R30). -/
  p : Byte
  /-- `A`, cell 17 (R23). -/
  a : Byte
  /-- `X`, cell 18 (R24). -/
  x : Byte
  /-- `Y`, cell 19 (R24). -/
  y : Byte
  /-- `MCP` (R33). -/
  mcp : Cursor
  /-- `NMI_T` (R40). -/
  nmiT : Delay
  /-- `IRQ_T` (R40). -/
  irqT : Delay
  /-- `NMI_LINE` (R40). -/
  nmiLine : Bool
  /-- `BRK_SRCS`: bit 0 `SW`, bit 1 `IRQ`, bit 2 `NMI` (R41). -/
  brkSrcs : BitVec 3
  deriving DecidableEq, Repr

/-- A byte store: (address, byte) pairs, addresses strictly rising, no pair equal to what an unlisted
address reads as (`Memory.background`, Machine/Memory.lean). -/
structure Memory where
  cells : List Host.Cell
  deriving DecidableEq, Repr

/-- The eight region kinds of the bank decoder (spec/20_memory.md rule R90). -/
inductive Region
  | ram
  | basic
  | kernal
  | char
  | roml
  | romh
  | io
  | disconnected
  deriving DecidableEq, Repr

/-- The devices of the I/O window's sixteen slices (rule R104). -/
inductive Device
  | videoChip
  | soundChip
  | colorMemory
  | timerChip1
  | timerChip2
  | cartIo1
  | cartIo2
  deriving DecidableEq, Repr

/-- The direction of a bus access (rule R71). -/
inductive Dir
  | read
  | write
  deriving DecidableEq, Repr

/-- What answers a bus access: the port at addresses 0 and 1 (rule R91), a device behind the router
(rule R104), or another region of the decoder. `driveChip` and `driveStore` are the secondary system's. -/
inductive Target
  | port
  | region (r : Region)
  | device (d : Device)
  | driveStore
  | driveChip
  deriving DecidableEq, Repr

/-- The output of one system cycle (rule R171): the bus is withheld, or one access. `stream` marks the
reads that fetch an opcode or operand byte of the instruction stream. -/
inductive BusEvent
  | withheld
  | access (addr : Addr) (dir : Dir) (byte : Byte) (target : Target) (stream : Bool)
  deriving DecidableEq, Repr

/-- The two cartridge lines of a mode notification (rule R46). -/
structure CartLines where
  exrom : Bool
  game : Bool
  deriving DecidableEq, Repr

/-- The inputs of one system cycle (rule R171). -/
structure CycleInput where
  /-- `BW` (R48). -/
  bw : Bool
  /-- `IRQ_LEVEL` at the end of the cycle (R49). -/
  irq : Bool
  /-- `NMI_LEVEL` at the end of the cycle (R49). -/
  nmi : Bool
  /-- The cartridge's mode notification, if any (R46, R172 step 3). -/
  cart : Option CartLines
  /-- The byte that answers the cycle's read if a device, cartridge window or nothing does (R107). -/
  answer : Byte
  /-- The levels of port pins 7..3 (R92). -/
  pins : BitVec 5
  /-- The write into RAM that a withholding bus master makes in this cycle, if any (R84, R174). -/
  master : Option (Addr × Byte)
  /-- The byte that answers the secondary system's read of one of its chips (R457). -/
  driveAnswer : Byte
  /-- The secondary system's `IRQ_LEVEL` (R457). -/
  driveIrq : Bool
  /-- The secondary system's `NMI_LEVEL` (R457). -/
  driveNmi : Bool
  deriving DecidableEq, Repr

/-- The host operations, which act between cycles (rules R171, R451, R470, R471, R475). A reset of the
primary system carries the cartridge's answer to its reset callback (R471). -/
inductive HostOp
  | coldReset (cart : Option CartLines)
  | warmReset (cart : Option CartLines)
  | resume
  | driveColdReset
  | driveWarmReset
  | driveResume
  deriving DecidableEq, Repr

/-- One entry of the input queue: the inputs of one system cycle, or a host operation. -/
inductive Event
  | cycle (c : CycleInput)
  | host (op : HostOp)
  deriving DecidableEq, Repr

/-- The secondary system (spec/60_exceptions.md rules R455, R457). -/
structure Drive where
  /-- Its own engine. -/
  cpu : Cpu
  /-- Its RAM. -/
  ram : Memory
  /-- The model's own: its bus events of the last step. -/
  trace : List BusEvent
  deriving DecidableEq, Repr

/-- The whole state: every element of rule R53, the secondary system, and the model's own `inputs`,
`clock` and `trace` (assumptions 2, 18, 19). -/
structure State where
  /-- The primary engine. -/
  cpu : Cpu
  /-- `DDR`, the port's direction register (R45). -/
  ddr : Byte
  /-- `PDATA`, the port's output latch (R45). -/
  pdata : Byte
  /-- `EXROM` (R46). -/
  exrom : Bool
  /-- `GAME` (R46). -/
  game : Bool
  /-- `CFG` (R47). -/
  cfg : Fin 14
  /-- `RAM` (R50). -/
  ram : Memory
  /-- `SEC_CNT` (R52). -/
  secCnt : Fin Config.secDen
  /-- The secondary system (R455). -/
  drive : Drive
  /-- The model's own: inputs of the coming cycles and host operations between them. -/
  inputs : List Event
  /-- The model's own: system cycles and host operations so far; indexes the free values. -/
  clock : Nat
  /-- The model's own: bus events of the last step, oldest first. -/
  trace : List BusEvent
  deriving DecidableEq, Repr

/-- No condition of the hardware stops the machine (rules R110, R410): there is no fault to raise. -/
inductive Fault
  deriving DecidableEq, Repr

/-- Reasons for which `exec` gives an instruction no meaning. -/
inductive Refusal
  /-- Raised by an arm of `exec` whose instruction the model does not give a meaning; safe. No arm raises it. -/
  | notModelled (mnemonic : String)
  deriving DecidableEq, Repr

/-- The outcome of an instruction or a step. -/
abbrev Result := Host.Outcome State Fault Refusal

/-- A CPU right after the cold reset operation (rule R55). `SPH`, `ZPA`, `P.I`, `P.U`, `P.B`, `MCP` and
the interrupt state are the rule's; every other cell is DESIGN CHOICE zero (assumption 4, unsafe). -/
def Cpu.reset : Cpu where
  pc := 0x0000
  sp := 0x0100
  zpa := 0x0000
  a1 := 0x0000
  a2 := 0x0000
  a3 := 0x0000
  a4 := 0x0000
  d := 0x00
  ir := 0x00
  p := 0x34
  a := 0x00
  x := 0x00
  y := 0x00
  mcp := 208
  nmiT := .idle
  irqT := .idle
  nmiLine := false
  brkSrcs := 0

/-- The machine right after a cold reset with no cartridge (rules R55, R470, R473): the cursor at the
reset sequence, the port all inputs, configuration 13, memory with nothing listed, no input queued. -/
def State.reset : State where
  cpu := Cpu.reset
  ddr := 0x00
  pdata := 0x00
  exrom := true
  game := true
  cfg := 13
  ram := ⟨[]⟩
  secCnt := 0
  drive := { cpu := Cpu.reset, ram := ⟨[]⟩, trace := [] }
  inputs := []
  clock := 0
  trace := []

end Sys2Proof.Machine
end

