-- ==== Sys2Proof/Machine/MicroOp.lean ====
section
/-! DEFINITION. The micro-op record (spec/30_encoding.md rules R140, R141), the tags (R142) and the micro-op ROM
(R144), sequence by sequence (R147). -/

namespace Sys2Proof.Machine

/-- The seven 16-bit views a micro-op can take its address from (spec/10_state.md rule R22). -/
inductive View
  | pc
  | sp
  | zpa
  | a1
  | a2
  | a3
  | a4
  deriving DecidableEq, Repr

/-- The twenty 8-bit cells (spec/10_state.md rule R21), in index order. -/
inductive Cell
  | pcl
  | pch
  | spl
  | sph
  | zpal
  | zpah
  | a1l
  | a1h
  | a2l
  | a2h
  | a3l
  | a3h
  | a4l
  | a4h
  | d
  | ir
  | p
  | a
  | x
  | y
  deriving DecidableEq, Repr

/-- The 43 tags (rule R142), in the order of their numbers. -/
inductive Tag
  /-- R175. -/
  | nmop
  /-- R176. -/
  | doOp
  /-- R177. -/
  | stReg
  /-- R178. -/
  | stSh
  /-- R179. -/
  | zpX
  /-- R179. -/
  | zpY
  /-- R180. -/
  | zpXSt
  /-- R180. -/
  | zpYSt
  /-- R181. -/
  | incZpa
  /-- R182. -/
  | absX
  /-- R182. -/
  | absY
  /-- R183. -/
  | absXNs
  /-- R183. -/
  | absYNs
  /-- R184. -/
  | jmpAbs
  /-- R185. -/
  | incA1l
  /-- R186. -/
  | jmpInd
  /-- R187. -/
  | incA4
  /-- R188. -/
  | bpl
  /-- R188. -/
  | bmi
  /-- R188. -/
  | bvc
  /-- R188. -/
  | bvs
  /-- R188. -/
  | bcc
  /-- R188. -/
  | bcs
  /-- R188. -/
  | bne
  /-- R188. -/
  | beq
  /-- R189. -/
  | brPcl
  /-- R190. -/
  | brFix
  /-- R191. -/
  | holdInts
  /-- R192. -/
  | pha
  /-- R193. -/
  | php
  /-- R194. -/
  | decSp
  /-- R195. -/
  | incSp
  /-- R196. -/
  | rti
  /-- R197. -/
  | brk
  /-- R198. -/
  | brkP
  /-- R199. -/
  | brkVec
  /-- R200. -/
  | resetVec
  /-- R201. -/
  | dispatch
  /-- R202. -/
  | dispatchCli
  /-- R203. -/
  | dispatchSei
  /-- R204. -/
  | dispatchPlp
  /-- R205. -/
  | dispatchBrk
  /-- R206. -/
  | hlt
  deriving DecidableEq, Repr

/-- A micro-op: "which register supplies the address", "which register is the read/write target", direction,
program-counter increment, and the tag performed after the bus transaction (rule R140). -/
structure MicroOp where
  ar : View
  dr : Cell
  rw : Dir
  inc : Bool
  tag : Tag
  deriving DecidableEq, Repr

/-- The index of a 16-bit view (rule R22). -/
def View.index : View → Nat
  | .pc => 0
  | .sp => 1
  | .zpa => 2
  | .a1 => 3
  | .a2 => 4
  | .a3 => 5
  | .a4 => 6

/-- The index of an 8-bit cell (rule R21). -/
def Cell.index : Cell → Nat
  | .pcl => 0
  | .pch => 1
  | .spl => 2
  | .sph => 3
  | .zpal => 4
  | .zpah => 5
  | .a1l => 6
  | .a1h => 7
  | .a2l => 8
  | .a2h => 9
  | .a3l => 10
  | .a3h => 11
  | .a4l => 12
  | .a4h => 13
  | .d => 14
  | .ir => 15
  | .p => 16
  | .a => 17
  | .x => 18
  | .y => 19

/-- The number of a tag (rule R142). -/
def Tag.number : Tag → Nat
  | .nmop => 0
  | .doOp => 1
  | .stReg => 2
  | .stSh => 3
  | .zpX => 4
  | .zpY => 5
  | .zpXSt => 6
  | .zpYSt => 7
  | .incZpa => 8
  | .absX => 9
  | .absY => 10
  | .absXNs => 11
  | .absYNs => 12
  | .jmpAbs => 13
  | .incA1l => 14
  | .jmpInd => 15
  | .incA4 => 16
  | .bpl => 17
  | .bmi => 18
  | .bvc => 19
  | .bvs => 20
  | .bcc => 21
  | .bcs => 22
  | .bne => 23
  | .beq => 24
  | .brPcl => 25
  | .brFix => 26
  | .holdInts => 27
  | .pha => 28
  | .php => 29
  | .decSp => 30
  | .incSp => 31
  | .rti => 32
  | .brk => 33
  | .brkP => 34
  | .brkVec => 35
  | .resetVec => 36
  | .dispatch => 37
  | .dispatchCli => 38
  | .dispatchSei => 39
  | .dispatchPlp => 40
  | .dispatchBrk => 41
  | .hlt => 42

/-- The packed 16-bit word of a record (rule R141): `ar` 15:13, `dr` 12:8, `rw` 7, `inc` 6, `tag` 5:0. -/
def MicroOp.word (m : MicroOp) : BitVec 16 :=
  BitVec.ofNat 16 (m.ar.index * 8192 + m.dr.index * 256 + (if m.rw = .write then 128 else 0)
    + (if m.inc then 64 else 0) + m.tag.number)

/-- A tag that ends an instruction: an instruction boundary (spec/40_engine.md rule R230). -/
def Tag.isDispatch : Tag → Bool
  | .dispatch => true
  | .dispatchCli => true
  | .dispatchSei => true
  | .dispatchPlp => true
  | .dispatchBrk => true
  | _ => false

/-- Sequence `IMP`, records 0..1 (rules R144, R147). -/
def seqImp : List MicroOp := [
  ⟨.pc, .d, .read, false, .doOp⟩,
  ⟨.pc, .ir, .read, true, .dispatch⟩]

/-- Sequence `IMM`, records 2..3 (rules R144, R147). -/
def seqImm : List MicroOp := [
  ⟨.pc, .d, .read, true, .doOp⟩,
  ⟨.pc, .ir, .read, true, .dispatch⟩]

/-- Sequence `ZP_R`, records 4..6 (rules R144, R147). -/
def seqZpR : List MicroOp := [
  ⟨.pc, .zpal, .read, true, .nmop⟩,
  ⟨.zpa, .d, .read, false, .doOp⟩,
  ⟨.pc, .ir, .read, true, .dispatch⟩]

/-- Sequence `ZP_W`, records 7..9 (rules R144, R147). -/
def seqZpW : List MicroOp := [
  ⟨.pc, .zpal, .read, true, .stReg⟩,
  ⟨.zpa, .d, .write, false, .nmop⟩,
  ⟨.pc, .ir, .read, true, .dispatch⟩]

/-- Sequence `ZP_M`, records 10..14 (rules R144, R147). -/
def seqZpM : List MicroOp := [
  ⟨.pc, .zpal, .read, true, .nmop⟩,
  ⟨.zpa, .d, .read, false, .nmop⟩,
  ⟨.zpa, .d, .write, false, .doOp⟩,
  ⟨.zpa, .d, .write, false, .nmop⟩,
  ⟨.pc, .ir, .read, true, .dispatch⟩]

/-- Sequence `ZPX_R`, records 15..18 (rules R144, R147). -/
def seqZpxR : List MicroOp := [
  ⟨.pc, .zpal, .read, true, .nmop⟩,
  ⟨.zpa, .d, .read, false, .zpX⟩,
  ⟨.zpa, .d, .read, false, .doOp⟩,
  ⟨.pc, .ir, .read, true, .dispatch⟩]

/-- Sequence `ZPX_W`, records 19..22 (rules R144, R147). -/
def seqZpxW : List MicroOp := [
  ⟨.pc, .zpal, .read, true, .nmop⟩,
  ⟨.zpa, .d, .read, false, .zpXSt⟩,
  ⟨.zpa, .d, .write, false, .nmop⟩,
  ⟨.pc, .ir, .read, true, .dispatch⟩]

/-- Sequence `ZPX_M`, records 23..28 (rules R144, R147). -/
def seqZpxM : List MicroOp := [
  ⟨.pc, .zpal, .read, true, .nmop⟩,
  ⟨.zpa, .d, .read, false, .zpX⟩,
  ⟨.zpa, .d, .read, false, .nmop⟩,
  ⟨.zpa, .d, .write, false, .doOp⟩,
  ⟨.zpa, .d, .write, false, .nmop⟩,
  ⟨.pc, .ir, .read, true, .dispatch⟩]

/-- Sequence `ZPY_R`, records 29..32 (rules R144, R147). -/
def seqZpyR : List MicroOp := [
  ⟨.pc, .zpal, .read, true, .nmop⟩,
  ⟨.zpa, .d, .read, false, .zpY⟩,
  ⟨.zpa, .d, .read, false, .doOp⟩,
  ⟨.pc, .ir, .read, true, .dispatch⟩]

/-- Sequence `ZPY_W`, records 33..36 (rules R144, R147). -/
def seqZpyW : List MicroOp := [
  ⟨.pc, .zpal, .read, true, .nmop⟩,
  ⟨.zpa, .d, .read, false, .zpYSt⟩,
  ⟨.zpa, .d, .write, false, .nmop⟩,
  ⟨.pc, .ir, .read, true, .dispatch⟩]

/-- Sequence `ABS_R`, records 37..40 (rules R144, R147). -/
def seqAbsR : List MicroOp := [
  ⟨.pc, .a1l, .read, true, .nmop⟩,
  ⟨.pc, .a1h, .read, true, .nmop⟩,
  ⟨.a1, .d, .read, false, .doOp⟩,
  ⟨.pc, .ir, .read, true, .dispatch⟩]

/-- Sequence `ABS_W`, records 41..44 (rules R144, R147). -/
def seqAbsW : List MicroOp := [
  ⟨.pc, .a1l, .read, true, .nmop⟩,
  ⟨.pc, .a1h, .read, true, .stReg⟩,
  ⟨.a1, .d, .write, false, .nmop⟩,
  ⟨.pc, .ir, .read, true, .dispatch⟩]

/-- Sequence `ABS_M`, records 45..50 (rules R144, R147). -/
def seqAbsM : List MicroOp := [
  ⟨.pc, .a1l, .read, true, .nmop⟩,
  ⟨.pc, .a1h, .read, true, .nmop⟩,
  ⟨.a1, .d, .read, false, .nmop⟩,
  ⟨.a1, .d, .write, false, .doOp⟩,
  ⟨.a1, .d, .write, false, .nmop⟩,
  ⟨.pc, .ir, .read, true, .dispatch⟩]

/-- Sequence `ABX_R`, records 51..55 (rules R144, R147). -/
def seqAbxR : List MicroOp := [
  ⟨.pc, .a1l, .read, true, .nmop⟩,
  ⟨.pc, .a1h, .read, true, .absX⟩,
  ⟨.a1, .d, .read, false, .nmop⟩,
  ⟨.a2, .d, .read, false, .doOp⟩,
  ⟨.pc, .ir, .read, true, .dispatch⟩]

/-- Sequence `ABX_W`, records 56..60 (rules R144, R147). -/
def seqAbxW : List MicroOp := [
  ⟨.pc, .a1l, .read, true, .nmop⟩,
  ⟨.pc, .a1h, .read, true, .absXNs⟩,
  ⟨.a1, .d, .read, false, .stReg⟩,
  ⟨.a2, .d, .write, false, .nmop⟩,
  ⟨.pc, .ir, .read, true, .dispatch⟩]

/-- Sequence `ABX_M`, records 61..67 (rules R144, R147). -/
def seqAbxM : List MicroOp := [
  ⟨.pc, .a1l, .read, true, .nmop⟩,
  ⟨.pc, .a1h, .read, true, .absXNs⟩,
  ⟨.a1, .d, .read, false, .nmop⟩,
  ⟨.a2, .d, .read, false, .nmop⟩,
  ⟨.a2, .d, .write, false, .doOp⟩,
  ⟨.a2, .d, .write, false, .nmop⟩,
  ⟨.pc, .ir, .read, true, .dispatch⟩]

/-- Sequence `ABX_SH`, records 68..72 (rules R144, R147). -/
def seqAbxSh : List MicroOp := [
  ⟨.pc, .a1l, .read, true, .nmop⟩,
  ⟨.pc, .a1h, .read, true, .absXNs⟩,
  ⟨.a1, .d, .read, false, .stSh⟩,
  ⟨.a2, .d, .write, false, .nmop⟩,
  ⟨.pc, .ir, .read, true, .dispatch⟩]

/-- Sequence `ABY_R`, records 73..77 (rules R144, R147). -/
def seqAbyR : List MicroOp := [
  ⟨.pc, .a1l, .read, true, .nmop⟩,
  ⟨.pc, .a1h, .read, true, .absY⟩,
  ⟨.a1, .d, .read, false, .nmop⟩,
  ⟨.a2, .d, .read, false, .doOp⟩,
  ⟨.pc, .ir, .read, true, .dispatch⟩]

/-- Sequence `ABY_W`, records 78..82 (rules R144, R147). -/
def seqAbyW : List MicroOp := [
  ⟨.pc, .a1l, .read, true, .nmop⟩,
  ⟨.pc, .a1h, .read, true, .absYNs⟩,
  ⟨.a1, .d, .read, false, .stReg⟩,
  ⟨.a2, .d, .write, false, .nmop⟩,
  ⟨.pc, .ir, .read, true, .dispatch⟩]

/-- Sequence `ABY_M`, records 83..89 (rules R144, R147). -/
def seqAbyM : List MicroOp := [
  ⟨.pc, .a1l, .read, true, .nmop⟩,
  ⟨.pc, .a1h, .read, true, .absYNs⟩,
  ⟨.a1, .d, .read, false, .nmop⟩,
  ⟨.a2, .d, .read, false, .nmop⟩,
  ⟨.a2, .d, .write, false, .doOp⟩,
  ⟨.a2, .d, .write, false, .nmop⟩,
  ⟨.pc, .ir, .read, true, .dispatch⟩]

/-- Sequence `ABY_SH`, records 90..94 (rules R144, R147). -/
def seqAbySh : List MicroOp := [
  ⟨.pc, .a1l, .read, true, .nmop⟩,
  ⟨.pc, .a1h, .read, true, .absYNs⟩,
  ⟨.a1, .d, .read, false, .stSh⟩,
  ⟨.a2, .d, .write, false, .nmop⟩,
  ⟨.pc, .ir, .read, true, .dispatch⟩]

/-- Sequence `IZX_R`, records 95..100 (rules R144, R147). -/
def seqIzxR : List MicroOp := [
  ⟨.pc, .zpal, .read, true, .nmop⟩,
  ⟨.zpa, .d, .read, false, .zpX⟩,
  ⟨.zpa, .a1l, .read, false, .incZpa⟩,
  ⟨.zpa, .a1h, .read, false, .nmop⟩,
  ⟨.a1, .d, .read, false, .doOp⟩,
  ⟨.pc, .ir, .read, true, .dispatch⟩]

/-- Sequence `IZX_W`, records 101..106 (rules R144, R147). -/
def seqIzxW : List MicroOp := [
  ⟨.pc, .zpal, .read, true, .nmop⟩,
  ⟨.zpa, .d, .read, false, .zpX⟩,
  ⟨.zpa, .a1l, .read, false, .incZpa⟩,
  ⟨.zpa, .a1h, .read, false, .stReg⟩,
  ⟨.a1, .d, .write, false, .nmop⟩,
  ⟨.pc, .ir, .read, true, .dispatch⟩]

/-- Sequence `IZX_M`, records 107..114 (rules R144, R147). -/
def seqIzxM : List MicroOp := [
  ⟨.pc, .zpal, .read, true, .nmop⟩,
  ⟨.zpa, .d, .read, false, .zpX⟩,
  ⟨.zpa, .a1l, .read, false, .incZpa⟩,
  ⟨.zpa, .a1h, .read, false, .nmop⟩,
  ⟨.a1, .d, .read, false, .nmop⟩,
  ⟨.a1, .d, .write, false, .doOp⟩,
  ⟨.a1, .d, .write, false, .nmop⟩,
  ⟨.pc, .ir, .read, true, .dispatch⟩]

/-- Sequence `IZY_R`, records 115..120 (rules R144, R147). -/
def seqIzyR : List MicroOp := [
  ⟨.pc, .zpal, .read, true, .nmop⟩,
  ⟨.zpa, .a1l, .read, false, .incZpa⟩,
  ⟨.zpa, .a1h, .read, false, .absY⟩,
  ⟨.a1, .d, .read, false, .nmop⟩,
  ⟨.a2, .d, .read, false, .doOp⟩,
  ⟨.pc, .ir, .read, true, .dispatch⟩]

/-- Sequence `IZY_W`, records 121..126 (rules R144, R147). -/
def seqIzyW : List MicroOp := [
  ⟨.pc, .zpal, .read, true, .nmop⟩,
  ⟨.zpa, .a1l, .read, false, .incZpa⟩,
  ⟨.zpa, .a1h, .read, false, .absYNs⟩,
  ⟨.a1, .d, .read, false, .stReg⟩,
  ⟨.a2, .d, .write, false, .nmop⟩,
  ⟨.pc, .ir, .read, true, .dispatch⟩]

/-- Sequence `IZY_M`, records 127..134 (rules R144, R147). -/
def seqIzyM : List MicroOp := [
  ⟨.pc, .zpal, .read, true, .nmop⟩,
  ⟨.zpa, .a1l, .read, false, .incZpa⟩,
  ⟨.zpa, .a1h, .read, false, .absYNs⟩,
  ⟨.a1, .d, .read, false, .nmop⟩,
  ⟨.a2, .d, .read, false, .nmop⟩,
  ⟨.a2, .d, .write, false, .doOp⟩,
  ⟨.a2, .d, .write, false, .nmop⟩,
  ⟨.pc, .ir, .read, true, .dispatch⟩]

/-- Sequence `IZY_SH`, records 135..140 (rules R144, R147). -/
def seqIzySh : List MicroOp := [
  ⟨.pc, .zpal, .read, true, .nmop⟩,
  ⟨.zpa, .a1l, .read, false, .incZpa⟩,
  ⟨.zpa, .a1h, .read, false, .absYNs⟩,
  ⟨.a1, .d, .read, false, .stSh⟩,
  ⟨.a2, .d, .write, false, .nmop⟩,
  ⟨.pc, .ir, .read, true, .dispatch⟩]

/-- Sequence `JMP_ABS`, records 141..143 (rules R144, R147). -/
def seqJmpAbs : List MicroOp := [
  ⟨.pc, .a1l, .read, true, .nmop⟩,
  ⟨.pc, .a1h, .read, false, .jmpAbs⟩,
  ⟨.pc, .ir, .read, true, .dispatch⟩]

/-- Sequence `JMP_IND`, records 144..148 (rules R144, R147). -/
def seqJmpInd : List MicroOp := [
  ⟨.pc, .a1l, .read, true, .nmop⟩,
  ⟨.pc, .a1h, .read, true, .nmop⟩,
  ⟨.a1, .a2l, .read, false, .incA1l⟩,
  ⟨.a1, .a2h, .read, false, .jmpInd⟩,
  ⟨.pc, .ir, .read, true, .dispatch⟩]

/-- Sequence `JSR`, records 149..154 (rules R144, R147). -/
def seqJsr : List MicroOp := [
  ⟨.pc, .a1l, .read, true, .nmop⟩,
  ⟨.sp, .d, .read, false, .nmop⟩,
  ⟨.sp, .pch, .write, false, .decSp⟩,
  ⟨.sp, .pcl, .write, false, .decSp⟩,
  ⟨.pc, .a1h, .read, false, .jmpAbs⟩,
  ⟨.pc, .ir, .read, true, .dispatch⟩]

/-- Sequence `RTS`, records 155..160 (rules R144, R147). -/
def seqRts : List MicroOp := [
  ⟨.pc, .d, .read, false, .nmop⟩,
  ⟨.sp, .d, .read, false, .incSp⟩,
  ⟨.sp, .pcl, .read, false, .incSp⟩,
  ⟨.sp, .pch, .read, false, .nmop⟩,
  ⟨.pc, .d, .read, true, .nmop⟩,
  ⟨.pc, .ir, .read, true, .dispatch⟩]

/-- Sequence `RTI`, records 161..166 (rules R144, R147). -/
def seqRti : List MicroOp := [
  ⟨.pc, .d, .read, false, .nmop⟩,
  ⟨.sp, .d, .read, false, .incSp⟩,
  ⟨.sp, .p, .read, false, .rti⟩,
  ⟨.sp, .pcl, .read, false, .incSp⟩,
  ⟨.sp, .pch, .read, false, .nmop⟩,
  ⟨.pc, .ir, .read, true, .dispatch⟩]

/-- Sequence `PHA`, records 167..169 (rules R144, R147). -/
def seqPha : List MicroOp := [
  ⟨.pc, .d, .read, false, .pha⟩,
  ⟨.sp, .d, .write, false, .decSp⟩,
  ⟨.pc, .ir, .read, true, .dispatch⟩]

/-- Sequence `PHP`, records 170..172 (rules R144, R147). -/
def seqPhp : List MicroOp := [
  ⟨.pc, .d, .read, false, .php⟩,
  ⟨.sp, .d, .write, false, .decSp⟩,
  ⟨.pc, .ir, .read, true, .dispatch⟩]

/-- Sequence `PLA`, records 173..176 (rules R144, R147). -/
def seqPla : List MicroOp := [
  ⟨.pc, .d, .read, false, .nmop⟩,
  ⟨.sp, .d, .read, false, .incSp⟩,
  ⟨.sp, .d, .read, false, .doOp⟩,
  ⟨.pc, .ir, .read, true, .dispatch⟩]

/-- Sequence `PLP`, records 177..180 (rules R144, R147). -/
def seqPlp : List MicroOp := [
  ⟨.pc, .d, .read, false, .nmop⟩,
  ⟨.sp, .d, .read, false, .incSp⟩,
  ⟨.sp, .d, .read, false, .nmop⟩,
  ⟨.pc, .ir, .read, true, .dispatchPlp⟩]

/-- Sequence `CLI`, records 181..182 (rules R144, R147). -/
def seqCli : List MicroOp := [
  ⟨.pc, .d, .read, false, .nmop⟩,
  ⟨.pc, .ir, .read, true, .dispatchCli⟩]

/-- Sequence `SEI`, records 183..184 (rules R144, R147). -/
def seqSei : List MicroOp := [
  ⟨.pc, .d, .read, false, .nmop⟩,
  ⟨.pc, .ir, .read, true, .dispatchSei⟩]

/-- Sequence `BRK`, records 185..191 (rules R144, R147). -/
def seqBrk : List MicroOp := [
  ⟨.pc, .d, .read, false, .brk⟩,
  ⟨.sp, .pch, .write, false, .decSp⟩,
  ⟨.sp, .pcl, .write, false, .brkP⟩,
  ⟨.sp, .d, .write, false, .brkVec⟩,
  ⟨.a4, .a1l, .read, false, .incA4⟩,
  ⟨.a4, .a1h, .read, false, .jmpAbs⟩,
  ⟨.pc, .ir, .read, true, .dispatchBrk⟩]

/-- Sequence `BPL`, records 192..192 (rules R144, R147). -/
def seqBpl : List MicroOp := [
  ⟨.pc, .d, .read, true, .bpl⟩]

/-- Sequence `BMI`, records 193..193 (rules R144, R147). -/
def seqBmi : List MicroOp := [
  ⟨.pc, .d, .read, true, .bmi⟩]

/-- Sequence `BVC`, records 194..194 (rules R144, R147). -/
def seqBvc : List MicroOp := [
  ⟨.pc, .d, .read, true, .bvc⟩]

/-- Sequence `BVS`, records 195..195 (rules R144, R147). -/
def seqBvs : List MicroOp := [
  ⟨.pc, .d, .read, true, .bvs⟩]

/-- Sequence `BCC`, records 196..196 (rules R144, R147). -/
def seqBcc : List MicroOp := [
  ⟨.pc, .d, .read, true, .bcc⟩]

/-- Sequence `BCS`, records 197..197 (rules R144, R147). -/
def seqBcs : List MicroOp := [
  ⟨.pc, .d, .read, true, .bcs⟩]

/-- Sequence `BNE`, records 198..198 (rules R144, R147). -/
def seqBne : List MicroOp := [
  ⟨.pc, .d, .read, true, .bne⟩]

/-- Sequence `BEQ`, records 199..199 (rules R144, R147). -/
def seqBeq : List MicroOp := [
  ⟨.pc, .d, .read, true, .beq⟩]

/-- Sequence `BR_CROSS`, records 200..202 (rules R144, R147). -/
def seqBrCross : List MicroOp := [
  ⟨.pc, .d, .read, false, .brPcl⟩,
  ⟨.pc, .d, .read, false, .brFix⟩,
  ⟨.pc, .ir, .read, true, .dispatch⟩]

/-- Sequence `BR_NOCROSS`, records 203..204 (rules R144, R147). -/
def seqBrNocross : List MicroOp := [
  ⟨.pc, .d, .read, false, .holdInts⟩,
  ⟨.pc, .ir, .read, true, .dispatch⟩]

/-- Sequence `JAM`, records 205..207 (rules R144, R147). -/
def seqJam : List MicroOp := [
  ⟨.pc, .d, .read, false, .nmop⟩,
  ⟨.pc, .d, .read, false, .hlt⟩,
  ⟨.pc, .ir, .read, true, .dispatch⟩]

/-- Sequence `RESET`, records 208..215 (rules R144, R147). -/
def seqReset : List MicroOp := [
  ⟨.pc, .d, .read, false, .nmop⟩,
  ⟨.pc, .d, .read, false, .nmop⟩,
  ⟨.sp, .d, .read, false, .decSp⟩,
  ⟨.sp, .d, .read, false, .decSp⟩,
  ⟨.sp, .d, .read, false, .resetVec⟩,
  ⟨.a4, .a1l, .read, false, .incA4⟩,
  ⟨.a4, .a1h, .read, false, .jmpAbs⟩,
  ⟨.pc, .ir, .read, true, .dispatchBrk⟩]

/-- The micro-op ROM: 216 records (rule R144). -/
def rom : List MicroOp :=
  seqImp ++ seqImm ++ seqZpR ++ seqZpW ++ seqZpM ++ seqZpxR ++
  seqZpxW ++ seqZpxM ++ seqZpyR ++ seqZpyW ++ seqAbsR ++ seqAbsW ++
  seqAbsM ++ seqAbxR ++ seqAbxW ++ seqAbxM ++ seqAbxSh ++ seqAbyR ++
  seqAbyW ++ seqAbyM ++ seqAbySh ++ seqIzxR ++ seqIzxW ++ seqIzxM ++
  seqIzyR ++ seqIzyW ++ seqIzyM ++ seqIzySh ++ seqJmpAbs ++ seqJmpInd ++
  seqJsr ++ seqRts ++ seqRti ++ seqPha ++ seqPhp ++ seqPla ++
  seqPlp ++ seqCli ++ seqSei ++ seqBrk ++ seqBpl ++ seqBmi ++
  seqBvc ++ seqBvs ++ seqBcc ++ seqBcs ++ seqBne ++ seqBeq ++
  seqBrCross ++ seqBrNocross ++ seqJam ++ seqReset

/-- `ROM[MCP]` (rule R172). -/
def romAt (m : Cursor) : MicroOp := rom.getD m.val ⟨.pc, .d, .read, false, .nmop⟩

/-- The record index at which each sequence starts (rule R147), for the cursor assignments of the tags. -/
def brDisp : Cursor := 202

/-- The first record of `BR_CROSS` (rule R188). -/
def brCross : Cursor := 200

/-- The hold record of `BR_NOCROSS` (rule R188). -/
def brNoCross : Cursor := 203

/-- `HLT`, the one record with tag `hlt` (spec/10_state.md rule R42). -/
def hltSlot : Cursor := 206

/-- The dispatch record of the `JAM` sequence, to which `resume` moves the cursor (spec/60_exceptions.md rule R451). -/
def resumeSlot : Cursor := 207

/-- `OPC_START[256]`, the reset sequence (rule R143). -/
def resetStart : Cursor := 208

/-- An instruction boundary: `ROM[MCP].tag` is a dispatch tag (spec/40_engine.md rule R230). -/
def isBoundary (m : Cursor) : Bool := (romAt m).tag.isDispatch

/-- `halted` (spec/10_state.md rule R42). -/
def isHalted (m : Cursor) : Bool := m = hltSlot

/-- `OPC_START` (rule R143), sixteen opcodes a line. -/
def opcStartTable : List Cursor :=
  [185, 95, 205, 107, 4, 4, 10, 10, 170, 2, 0, 2, 37, 37, 45, 45] ++
  [192, 115, 205, 127, 15, 15, 23, 23, 0, 73, 0, 83, 51, 51, 61, 61] ++
  [149, 95, 205, 107, 4, 4, 10, 10, 177, 2, 0, 2, 37, 37, 45, 45] ++
  [193, 115, 205, 127, 15, 15, 23, 23, 0, 73, 0, 83, 51, 51, 61, 61] ++
  [161, 95, 205, 107, 4, 4, 10, 10, 167, 2, 0, 2, 141, 37, 45, 45] ++
  [194, 115, 205, 127, 15, 15, 23, 23, 181, 73, 0, 83, 51, 51, 61, 61] ++
  [155, 95, 205, 107, 4, 4, 10, 10, 173, 2, 0, 2, 144, 37, 45, 45] ++
  [195, 115, 205, 127, 15, 15, 23, 23, 183, 73, 0, 83, 51, 51, 61, 61] ++
  [2, 101, 2, 101, 7, 7, 7, 7, 0, 2, 0, 2, 41, 41, 41, 41] ++
  [196, 121, 205, 135, 19, 19, 33, 33, 0, 78, 0, 90, 68, 56, 90, 90] ++
  [2, 95, 2, 95, 4, 4, 4, 4, 0, 2, 0, 2, 37, 37, 37, 37] ++
  [197, 115, 205, 115, 15, 15, 29, 29, 0, 73, 0, 73, 51, 51, 73, 73] ++
  [2, 95, 2, 107, 4, 4, 10, 10, 0, 2, 0, 2, 37, 37, 45, 45] ++
  [198, 115, 205, 127, 15, 15, 23, 23, 0, 73, 0, 83, 51, 51, 61, 61] ++
  [2, 95, 2, 107, 4, 4, 10, 10, 0, 2, 0, 2, 37, 37, 45, 45] ++
  [199, 115, 205, 127, 15, 15, 23, 23, 0, 73, 0, 83, 51, 51, 61, 61]

/-- `OPC_START[IR]` (rule R143). -/
def opcStart (op : Byte) : Cursor := opcStartTable.getD op.toNat 0

end Sys2Proof.Machine
end

