-- ==== Sys2Proof/Machine/Registers.lean ====
section
/-! DEFINITION. Reading and writing the register file by selector: the 16-bit views and the 8-bit cells
(spec/10_state.md rules R20 to R22). A half of a view is stored in the view only. -/

namespace Sys2Proof.Machine

/-- `R16[ar]` (rule R22). -/
def Cpu.view (c : Cpu) : View → Addr
  | .pc => c.pc
  | .sp => c.sp
  | .zpa => c.zpa
  | .a1 => c.a1
  | .a2 => c.a2
  | .a3 => c.a3
  | .a4 => c.a4

/-- `R8[dr]` (rule R21). -/
def Cpu.cell (c : Cpu) : Cell → Byte
  | .pcl => lo c.pc
  | .pch => hi c.pc
  | .spl => lo c.sp
  | .sph => hi c.sp
  | .zpal => lo c.zpa
  | .zpah => hi c.zpa
  | .a1l => lo c.a1
  | .a1h => hi c.a1
  | .a2l => lo c.a2
  | .a2h => hi c.a2
  | .a3l => lo c.a3
  | .a3h => hi c.a3
  | .a4l => lo c.a4
  | .a4h => hi c.a4
  | .d => c.d
  | .ir => c.ir
  | .p => c.p
  | .a => c.a
  | .x => c.x
  | .y => c.y

/-- `R8[dr] <- b` (rule R21): a write to a cell changes the view it is a half of (rule R22). -/
def Cpu.setCell (c : Cpu) (r : Cell) (b : Byte) : Cpu :=
  match r with
  | .pcl => { c with pc := setLo c.pc b }
  | .pch => { c with pc := setHi c.pc b }
  | .spl => { c with sp := setLo c.sp b }
  | .sph => { c with sp := setHi c.sp b }
  | .zpal => { c with zpa := setLo c.zpa b }
  | .zpah => { c with zpa := setHi c.zpa b }
  | .a1l => { c with a1 := setLo c.a1 b }
  | .a1h => { c with a1 := setHi c.a1 b }
  | .a2l => { c with a2 := setLo c.a2 b }
  | .a2h => { c with a2 := setHi c.a2 b }
  | .a3l => { c with a3 := setLo c.a3 b }
  | .a3h => { c with a3 := setHi c.a3 b }
  | .a4l => { c with a4 := setLo c.a4 b }
  | .a4h => { c with a4 := setHi c.a4 b }
  | .d => { c with d := b }
  | .ir => { c with ir := b }
  | .p => { c with p := b }
  | .a => { c with a := b }
  | .x => { c with x := b }
  | .y => { c with y := b }

/-- `SPL`, also called `S` (rule R26). -/
def Cpu.s (c : Cpu) : Byte := lo c.sp

/-- `SPL <- b`; `SPH` is not written (rule R26). -/
def Cpu.setS (c : Cpu) (b : Byte) : Cpu := { c with sp := setLo c.sp b }

/-- `P.f <- on` on the register (rules R10, R30). -/
def Cpu.setFlag (c : Cpu) (f : Sys2Proof.Machine.Flag) (on : Bool) : Cpu :=
  { c with p := Sys2Proof.Machine.setFlag c.p f on }

end Sys2Proof.Machine
end

