-- ==== Sys2Proof/Machine/Behaviour.lean ====
section
/-! DEFINITION. The behaviours that the opcode in `IR` selects: `do_op` (spec/40_engine.md rule R176), `st_reg`
(R177) and `st_sh` (R178), one definition per mnemonic (spec files 41, 42, 43, 45, 46). Each acts on the CPU
with the operand in `D`. -/

namespace Sys2Proof.Machine

/-! Loads and transfers (spec/41_load_store_transfer.md). -/

/-- LDA (rule R260): `A <- D ; set_nz(D)`. -/
def opLda (c : Cpu) : Cpu := { c with a := c.d, p := setNZ c.p c.d }

/-- LDX (rule R261): `X <- D ; set_nz(D)`. -/
def opLdx (c : Cpu) : Cpu := { c with x := c.d, p := setNZ c.p c.d }

/-- LDY (rule R262): `Y <- D ; set_nz(D)`. -/
def opLdy (c : Cpu) : Cpu := { c with y := c.d, p := setNZ c.p c.d }

/-- TAX (rule R266). -/
def opTax (c : Cpu) : Cpu := { c with x := c.a, p := setNZ c.p c.a }

/-- TAY (rule R267). -/
def opTay (c : Cpu) : Cpu := { c with y := c.a, p := setNZ c.p c.a }

/-- TXA (rule R268). -/
def opTxa (c : Cpu) : Cpu := { c with a := c.x, p := setNZ c.p c.x }

/-- TYA (rule R269). -/
def opTya (c : Cpu) : Cpu := { c with a := c.y, p := setNZ c.p c.y }

/-- TSX (rule R270). -/
def opTsx (c : Cpu) : Cpu := { c with x := c.s, p := setNZ c.p c.s }

/-- TXS (rule R271): no flags. -/
def opTxs (c : Cpu) : Cpu := c.setS c.x

/-! Logic, add, subtract, compare, bit test (spec/42_alu.md). -/

/-- ORA (rule R284). -/
def opOra (c : Cpu) : Cpu := { c with a := c.a ||| c.d, p := setNZ c.p (c.a ||| c.d) }

/-- AND (rule R285). -/
def opAnd (c : Cpu) : Cpu := { c with a := c.a &&& c.d, p := setNZ c.p (c.a &&& c.d) }

/-- EOR (rule R286). -/
def opEor (c : Cpu) : Cpu := { c with a := c.a ^^^ c.d, p := setNZ c.p (c.a ^^^ c.d) }

/-- ADC (rule R287): `adc8(D)`. -/
def opAdc (c : Cpu) : Cpu := { c with a := (adc8 c.p c.a c.d).1, p := (adc8 c.p c.a c.d).2 }

/-- SBC (rule R288) and USBC (rule R384): `sbc8(D)`. -/
def opSbc (c : Cpu) : Cpu := { c with a := (sbc8 c.p c.a c.d).1, p := (sbc8 c.p c.a c.d).2 }

/-- CMP (rule R289). -/
def opCmp (c : Cpu) : Cpu := { c with p := cmp8 c.p c.a c.d }

/-- CPX (rule R290). -/
def opCpx (c : Cpu) : Cpu := { c with p := cmp8 c.p c.x c.d }

/-- CPY (rule R291). -/
def opCpy (c : Cpu) : Cpu := { c with p := cmp8 c.p c.y c.d }

/-- BIT (rule R292). -/
def opBit (c : Cpu) : Cpu := { c with p := bitTest c.p c.a c.d }

/-! Shifts, rotates, increments, decrements (spec/43_shift_rmw.md). `f` is the helper of rules R300 to R303. -/

/-- A shift or rotate of `A`: `A <- f(A) ; set_nz(A)` (rules R304 to R307, `acc`). -/
def shiftA (f : Byte → Byte → Byte × Byte) (c : Cpu) : Cpu :=
  { c with a := (f c.p c.a).1, p := setNZ (f c.p c.a).2 (f c.p c.a).1 }

/-- A shift or rotate of the memory operand: `D <- f(D) ; set_nz(D)` (rules R304 to R307). -/
def shiftD (f : Byte → Byte → Byte × Byte) (c : Cpu) : Cpu :=
  { c with d := (f c.p c.d).1, p := setNZ (f c.p c.d).2 (f c.p c.d).1 }

/-- INC (rule R308). -/
def opInc (c : Cpu) : Cpu := { c with d := c.d + 1, p := setNZ c.p (c.d + 1) }

/-- DEC (rule R309). -/
def opDec (c : Cpu) : Cpu := { c with d := c.d - 1, p := setNZ c.p (c.d - 1) }

/-- INX (rule R310). -/
def opInx (c : Cpu) : Cpu := { c with x := c.x + 1, p := setNZ c.p (c.x + 1) }

/-- INY (rule R311). -/
def opIny (c : Cpu) : Cpu := { c with y := c.y + 1, p := setNZ c.p (c.y + 1) }

/-- DEX (rule R312). -/
def opDex (c : Cpu) : Cpu := { c with x := c.x - 1, p := setNZ c.p (c.x - 1) }

/-- DEY (rule R313). -/
def opDey (c : Cpu) : Cpu := { c with y := c.y - 1, p := setNZ c.p (c.y - 1) }

/-! Pulls and flag instructions (spec/45_stack_flags.md). -/

/-- PLA (rule R352): `A <- D ; set_nz(D)`. -/
def opPla (c : Cpu) : Cpu := { c with a := c.d, p := setNZ c.p c.d }

/-- CLC (rule R354). -/
def opClc (c : Cpu) : Cpu := c.setFlag .c false

/-- SEC (rule R355). -/
def opSec (c : Cpu) : Cpu := c.setFlag .c true

/-- CLD (rule R358). -/
def opCld (c : Cpu) : Cpu := c.setFlag .d false

/-- SED (rule R359). -/
def opSed (c : Cpu) : Cpu := c.setFlag .d true

/-- CLV (rule R360). -/
def opClv (c : Cpu) : Cpu := c.setFlag .v false

/-- NOP (rules R361, R390): nothing. -/
def opNop (c : Cpu) : Cpu := c

/-! Undocumented operations (spec/46_undocumented.md). -/

/-- SLO (rule R370): `D <- asl8(D) ; A <- A | D ; set_nz(A)`. -/
def opSlo (c : Cpu) : Cpu :=
  let r := asl8 c.p c.d
  { c with d := r.1, a := c.a ||| r.1, p := setNZ r.2 (c.a ||| r.1) }

/-- RLA (rule R371): `D <- rol8(D) ; A <- A & D ; set_nz(A)`. -/
def opRla (c : Cpu) : Cpu :=
  let r := rol8 c.p c.d
  { c with d := r.1, a := c.a &&& r.1, p := setNZ r.2 (c.a &&& r.1) }

/-- SRE (rule R372): `D <- lsr8(D) ; A <- A ^ D ; set_nz(A)`. -/
def opSre (c : Cpu) : Cpu :=
  let r := lsr8 c.p c.d
  { c with d := r.1, a := c.a ^^^ r.1, p := setNZ r.2 (c.a ^^^ r.1) }

/-- RRA (rule R373): `D <- ror8(D) ; adc8(D)`; the rotate's carry is the addition's carry in. -/
def opRra (c : Cpu) : Cpu :=
  let r := ror8 c.p c.d
  { c with d := r.1, a := (adc8 r.2 c.a r.1).1, p := (adc8 r.2 c.a r.1).2 }

/-- DCP (rule R376): `D <- u8(D - 1) ; cmp8(A, D)`. -/
def opDcp (c : Cpu) : Cpu := { c with d := c.d - 1, p := cmp8 c.p c.a (c.d - 1) }

/-- ISC (rule R377): `D <- u8(D + 1) ; sbc8(D)`. -/
def opIsc (c : Cpu) : Cpu :=
  { c with d := c.d + 1, a := (sbc8 c.p c.a (c.d + 1)).1, p := (sbc8 c.p c.a (c.d + 1)).2 }

/-- LAX (rule R375): `A <- D ; X <- D ; set_nz(D)`. -/
def opLax (c : Cpu) : Cpu := { c with a := c.d, x := c.d, p := setNZ c.p c.d }

/-- ANC (rule R378): `A <- A & D ; set_nz(A) ; P.C <- A[7]`. -/
def opAnc (c : Cpu) : Cpu :=
  let r := c.a &&& c.d
  { c with a := r, p := setFlag (setNZ c.p r) .c r.msb }

/-- ALR (rule R379): `t <- A & D ; P.C <- t[0] ; A <- t >> 1 ; set_nz(A)`. -/
def opAlr (c : Cpu) : Cpu :=
  let r := lsr8 c.p (c.a &&& c.d)
  { c with a := r.1, p := setNZ r.2 r.1 }

/-- ARR (rule R380). -/
def opArr (c : Cpu) : Cpu := { c with a := (arr8 c.p (c.a &&& c.d)).1, p := (arr8 c.p (c.a &&& c.d)).2 }

/-- ANE (rule R381): `A <- (A | ANE_MAGIC) & X & D ; set_nz(A)`. -/
def opAne (c : Cpu) : Cpu :=
  let r := (c.a ||| Config.aneMagic) &&& c.x &&& c.d
  { c with a := r, p := setNZ c.p r }

/-- LXA (rule R382): `A <- (A | LXA_MAGIC) & D ; X <- A ; set_nz(A)`. -/
def opLxa (c : Cpu) : Cpu :=
  let r := (c.a ||| Config.lxaMagic) &&& c.d
  { c with a := r, x := r, p := setNZ c.p r }

/-- SBX (rule R383): `t <- (A & X) - D ; P.C <- (t >= 0) ; X <- u8(t) ; set_nz(X)`. -/
def opSbx (c : Cpu) : Cpu :=
  { c with x := (sbx8 c.p (c.a &&& c.x) c.d).1, p := (sbx8 c.p (c.a &&& c.x) c.d).2 }

/-- LAS (rule R385): `v <- D & SPL ; A <- v ; X <- v ; SPL <- v ; set_nz(v)`. -/
def opLas (c : Cpu) : Cpu :=
  let v := c.d &&& c.s
  { c.setS v with a := v, x := v, p := setNZ c.p v }

/-- `do_op` (rule R176): the behaviour of the opcode in `IR`. For a mnemonic whose sequences have no
`do_op` record it is never reached and does nothing (assumption 13). -/
def doOp (c : Cpu) : Cpu :=
  match mnemonicOf c.ir with
  | .lda => opLda c
  | .ldx => opLdx c
  | .ldy => opLdy c
  | .tax => opTax c
  | .tay => opTay c
  | .txa => opTxa c
  | .tya => opTya c
  | .tsx => opTsx c
  | .txs => opTxs c
  | .ora => opOra c
  | .and => opAnd c
  | .eor => opEor c
  | .adc => opAdc c
  | .sbc => opSbc c
  | .usbc => opSbc c
  | .cmp => opCmp c
  | .cpx => opCpx c
  | .cpy => opCpy c
  | .bit => opBit c
  | .asl => if modeOf c.ir = .acc then shiftA asl8 c else shiftD asl8 c
  | .lsr => if modeOf c.ir = .acc then shiftA lsr8 c else shiftD lsr8 c
  | .rol => if modeOf c.ir = .acc then shiftA rol8 c else shiftD rol8 c
  | .ror => if modeOf c.ir = .acc then shiftA ror8 c else shiftD ror8 c
  | .inc => opInc c
  | .dec => opDec c
  | .inx => opInx c
  | .iny => opIny c
  | .dex => opDex c
  | .dey => opDey c
  | .pla => opPla c
  | .clc => opClc c
  | .sec => opSec c
  | .cld => opCld c
  | .sed => opSed c
  | .clv => opClv c
  | .nop => opNop c
  | .slo => opSlo c
  | .rla => opRla c
  | .sre => opSre c
  | .rra => opRra c
  | .dcp => opDcp c
  | .isc => opIsc c
  | .lax => opLax c
  | .anc => opAnc c
  | .alr => opAlr c
  | .arr => opArr c
  | .ane => opAne c
  | .lxa => opLxa c
  | .sbx => opSbx c
  | .las => opLas c
  | .sta | .stx | .sty | .sax | .sha | .shx | .shy | .tas => c
  | .jmp | .jsr | .rts | .rti | .brk | .jam => c
  | .bpl | .bmi | .bvc | .bvs | .bcc | .bcs | .bne | .beq => c
  | .pha | .php | .plp | .cli | .sei => c

/-- The value a store opcode stores (rule R177); `none` for an opcode that is no plain store. -/
def storeValue (c : Cpu) : Option Byte :=
  match mnemonicOf c.ir with
  | .sta => some c.a
  | .stx => some c.x
  | .sty => some c.y
  | .sax => some (c.a &&& c.x)
  | _ => none

/-- `st_reg` (rule R177): `D <-` the stored value. -/
def stReg (c : Cpu) : Cpu :=
  match storeValue c with
  | some v => { c with d := v }
  | none => c

/-- The register `r` of `st_sh` (rule R178): `A & X` for SHA and TAS, `X` for SHX, `Y` for SHY; `none`
for any other opcode. -/
def shRegister (c : Cpu) : Option Byte :=
  match mnemonicOf c.ir with
  | .sha => some (c.a &&& c.x)
  | .tas => some (c.a &&& c.x)
  | .shx => some c.x
  | .shy => some c.y
  | _ => none

/-- `st_sh` (rule R178): `v <- r & u8(A1H + 1) ; D <- v`; on a page cross the write goes to `{v, A2L}`;
TAS loads the stack pointer first. -/
def stSh (c : Cpu) : Cpu :=
  match shRegister c with
  | none => c
  | some r =>
    let c1 := if mnemonicOf c.ir = .tas then c.setS (c.a &&& c.x) else c
    let v := r &&& (hi c1.a1 + 1)
    let c2 := { c1 with d := v }
    if hi c2.a2 ≠ hi c2.a1 then { c2 with a2 := setHi c2.a2 v } else c2

end Sys2Proof.Machine
end

