-- ==== Sys2Proof/Machine/Operands.lean ====
section
/-! DEFINITION. The operand forms: the effective addresses of spec/30_encoding.md rule R133 and the addressing
tags that compute them cycle by cycle (spec/40_engine.md rules R179 to R187, R189, R190). -/

namespace Sys2Proof.Machine

/-- `zp_x` (rule R179): `ZPAL <- u8(ZPAL + X)`; the sum wraps inside page 0. -/
def zpX (c : Cpu) : Cpu := { c with zpa := setLo c.zpa (lo c.zpa + c.x) }

/-- `zp_y` (rule R179). -/
def zpY (c : Cpu) : Cpu := { c with zpa := setLo c.zpa (lo c.zpa + c.y) }

/-- `inc_zpa` (rule R181): the pointer's second byte is in page 0 too. -/
def incZpa (c : Cpu) : Cpu := { c with zpa := setLo c.zpa (lo c.zpa + 1) }

/-- The two assignments of `abs_x` and `abs_y` with index `i` (rules R182, R183): `A2` is the effective
address, `A1` the address without the carry into its high byte. -/
def indexA1 (i : Byte) (c : Cpu) : Cpu :=
  { c with a2 := c.a1 + zext16 i, a1 := setLo c.a1 (lo c.a1 + i) }

/-- `abs_x`, `abs_y` with index `i` (rule R182): skip the record that reads at `A1` when no page is crossed. -/
def absIndex (i : Byte) (c : Cpu) : Cpu :=
  let c1 := indexA1 i c
  if c1.a1 = c1.a2 then { c1 with mcp := c1.mcp + 1 } else c1

/-- `inc_a1l` (rule R185): no carry into `A1H`. -/
def incA1l (c : Cpu) : Cpu := { c with a1 := setLo c.a1 (lo c.a1 + 1) }

/-- `inc_a4` (rule R187). -/
def incA4 (c : Cpu) : Cpu := { c with a4 := c.a4 + 1 }

/-- `jmp_abs` (rule R184). -/
def jmpAbs (c : Cpu) : Cpu := { c with pc := c.a1 }

/-- `jmp_ind` (rule R186). -/
def jmpInd (c : Cpu) : Cpu := { c with pc := c.a2 }

/-- A branch entry tag whose condition is `taken` (rule R188). -/
def branchEntry (taken : Bool) (c : Cpu) : Cpu :=
  if taken then
    let c1 := { c with a3 := c.pc + sext16 c.d }
    if hi c1.a3 = hi c1.pc then { c1 with mcp := brNoCross } else { c1 with mcp := brCross }
  else { c with mcp := brDisp }

/-- `br_pcl` (rule R189). -/
def brPcl (c : Cpu) : Cpu := { c with pc := setLo c.pc (lo c.a3) }

/-- `br_fix`, and the `PC` write of `hold_ints` (rules R190, R191). -/
def brFix (c : Cpu) : Cpu := { c with pc := c.a3 }

/-! The effective addresses as functions of the operand and the index registers (rule R133). -/

/-- `zp`: `zext_16(op8)`. -/
def eaZp (op8 : Byte) : Addr := zext16 op8

/-- `zpx`, `zpy`: `zext_16(u8(op8 + i))`. -/
def eaZpIndexed (op8 i : Byte) : Addr := zext16 (op8 + i)

/-- `abx`, `aby`, and the final address of `izy`: `u16(base + zext_16(i))`. -/
def eaIndexed (base : Addr) (i : Byte) : Addr := base + zext16 i

/-- The address without the carry into the high byte, read by the extra cycle (rule R215). -/
def eaUncarried (base : Addr) (i : Byte) : Addr := setLo base (lo base + i)

/-- A page is crossed (rule R223). -/
def pageCross (base : Addr) (i : Byte) : Bool := hi (base + zext16 i) ≠ hi base

/-- `rel`: `u16(PC_next + sext8_16(op8))`. -/
def eaRelative (next : Addr) (op8 : Byte) : Addr := next + sext16 op8

end Sys2Proof.Machine
end

