-- ==== Sys2Proof/Machine/Memory.lean ====
section
/-! DEFINITION. The byte stores: reading, writing, and their one canonical form (spec/10_state.md rule R50,
spec/20_memory.md rules R80, R100). -/

namespace Sys2Proof.Machine

/-- What an address that is not listed reads as. The spec leaves RAM unspecified at reset (rule R55):
DESIGN CHOICE, assumption 5, unsafe. -/
def Memory.background : Byte := 0x00

/-- The byte listed for address `a`, or the background. -/
def readCells (a : Nat) : List Host.Cell → Byte
  | [] => Memory.background
  | (b, v) :: rest => if a = b then v else readCells a rest

/-- The byte at an address (rule R100). -/
def Memory.read (m : Memory) (a : Addr) : Byte := readCells a.toNat m.cells

/-- Put `v` at `a` in a list in canonical form, keeping the form: storing the background removes the pair. -/
def writeCells (a : Nat) (v : Byte) : List Host.Cell → List Host.Cell
  | [] => if v = Memory.background then [] else [(a, v)]
  | (b, w) :: rest =>
    if a < b then (if v = Memory.background then (b, w) :: rest else (a, v) :: (b, w) :: rest)
    else if a = b then (if v = Memory.background then rest else (a, v) :: rest)
    else (b, w) :: writeCells a v rest

/-- The store with `v` at `a` (rule R100). -/
def Memory.write (m : Memory) (a : Addr) (v : Byte) : Memory := ⟨writeCells a.toNat v m.cells⟩

/-- The store that holds the given pairs, later ones winning, over the background. -/
def Memory.ofPairs (ps : List (Addr × Byte)) : Memory :=
  ps.foldl (fun m q => m.write q.1 q.2) ⟨[]⟩

/-- Every address of the list is at least `n`, they rise strictly, lie in the 2^16 byte space (rule R70),
and no pair holds the background. -/
def canonicalFrom (n : Nat) : List Host.Cell → Bool
  | [] => true
  | (b, v) :: rest => decide (n ≤ b) && decide (b < 65536) && decide (v ≠ Memory.background) && canonicalFrom (b + 1) rest

/-- The canonical form: equal stores are equal data. -/
def Memory.wf (m : Memory) : Bool := canonicalFrom 0 m.cells

end Sys2Proof.Machine
end

