-- ==== Sys2Proof/Machine/Bus.lean ====
section
/-! DEFINITION. The bank decoder, the port, the peripheral router and the one bus operation `Access`
(spec/20_memory.md rules R71, R90 to R105). -/

namespace Sys2Proof.Machine

/-- `port_bits` (rule R93): bit i is `PDATA[i]` where `DDR[i] = 1`, and 1 where it is an input. -/
def portBits (ddr pdata : Byte) : BitVec 3 := (pdata ||| ~~~ddr).extractLsb' 0 3

/-- `MODE = {EXROM, GAME, port_bits}` (rule R94). -/
def rawMode (ddr pdata : Byte) (exrom game : Bool) : BitVec 5 :=
  BitVec.ofBool exrom ++ BitVec.ofBool game ++ portBits ddr pdata

/-- `MODE_TO_CFG` (rule R95), indexed by MODE 0..31. -/
def modeToCfg : List (Fin 14) :=
  [0, 0, 1, 2, 0, 3, 4, 5, 0, 6, 7, 8, 0, 3, 9, 10,
   11, 11, 11, 11, 11, 11, 11, 11, 0, 6, 7, 12, 0, 3, 9, 13]

/-- `CFG` as a function of the four things it depends on (rules R47, R93 to R95). -/
def cfgOf (ddr pdata : Byte) (exrom game : Bool) : Fin 14 :=
  modeToCfg.getD (rawMode ddr pdata exrom game).toNat 0

/-- One configuration's layout (rule R96): the (read, write) mapping of blocks 1..7, 8..9, 10..11, 12, 13
and 14..15. Block 0 is `RAM` in every configuration. -/
structure Layout where
  blocks1to7 : Region × Region
  blocks8to9 : Region × Region
  blocks10to11 : Region × Region
  block12 : Region × Region
  block13 : Region × Region
  blocks14to15 : Region × Region

/-- The fourteen layouts (rule R96). -/
def layouts : List Layout := [
  ⟨(.ram, .ram), (.ram, .ram), (.ram, .ram), (.ram, .ram), (.ram, .ram), (.ram, .ram)⟩,
  ⟨(.ram, .ram), (.ram, .ram), (.romh, .ram), (.ram, .ram), (.char, .ram), (.kernal, .ram)⟩,
  ⟨(.ram, .ram), (.roml, .ram), (.romh, .ram), (.ram, .ram), (.char, .ram), (.kernal, .ram)⟩,
  ⟨(.ram, .ram), (.ram, .ram), (.ram, .ram), (.ram, .ram), (.io, .io), (.ram, .ram)⟩,
  ⟨(.ram, .ram), (.ram, .ram), (.romh, .ram), (.ram, .ram), (.io, .io), (.kernal, .ram)⟩,
  ⟨(.ram, .ram), (.roml, .ram), (.romh, .ram), (.ram, .ram), (.io, .io), (.kernal, .ram)⟩,
  ⟨(.ram, .ram), (.ram, .ram), (.ram, .ram), (.ram, .ram), (.char, .ram), (.ram, .ram)⟩,
  ⟨(.ram, .ram), (.ram, .ram), (.ram, .ram), (.ram, .ram), (.char, .ram), (.kernal, .ram)⟩,
  ⟨(.ram, .ram), (.roml, .ram), (.basic, .ram), (.ram, .ram), (.char, .ram), (.kernal, .ram)⟩,
  ⟨(.ram, .ram), (.ram, .ram), (.ram, .ram), (.ram, .ram), (.io, .io), (.kernal, .ram)⟩,
  ⟨(.ram, .ram), (.roml, .ram), (.basic, .ram), (.ram, .ram), (.io, .io), (.kernal, .ram)⟩,
  ⟨(.disconnected, .disconnected), (.roml, .roml), (.disconnected, .disconnected), (.disconnected, .disconnected), (.io, .io), (.romh, .romh)⟩,
  ⟨(.ram, .ram), (.ram, .ram), (.basic, .ram), (.ram, .ram), (.char, .ram), (.kernal, .ram)⟩,
  ⟨(.ram, .ram), (.ram, .ram), (.basic, .ram), (.ram, .ram), (.io, .io), (.kernal, .ram)⟩]

/-- The layout of a configuration (rule R96). -/
def layoutOf (cfg : Fin 14) : Layout :=
  layouts.getD cfg.val ⟨(.ram, .ram), (.ram, .ram), (.ram, .ram), (.ram, .ram), (.ram, .ram), (.ram, .ram)⟩

/-- The (read, write) mapping of a 4 KB block (rule R96). -/
def Layout.block (l : Layout) (n : Nat) : Region × Region :=
  if n = 0 then (.ram, .ram)
  else if n < 8 then l.blocks1to7
  else if n < 10 then l.blocks8to9
  else if n < 12 then l.blocks10to11
  else if n = 12 then l.block12
  else if n = 13 then l.block13
  else l.blocks14to15

/-- `LAYOUT[cfg][dir][addr[15:12]]` (rules R96, R109). -/
def regionOf (cfg : Fin 14) (dir : Dir) (addr : Addr) : Region :=
  let b := (layoutOf cfg).block (addr.toNat / 4096)
  match dir with
  | .read => b.1
  | .write => b.2

/-- The peripheral router (rule R104): slice `addr[11:8]`. -/
def router (addr : Addr) : Device :=
  let slice := addr.toNat / 256 % 16
  if slice < 4 then .videoChip
  else if slice < 8 then .soundChip
  else if slice < 12 then .colorMemory
  else if slice = 12 then .timerChip1
  else if slice = 13 then .timerChip2
  else if slice = 14 then .cartIo1
  else .cartIo2

/-- The test of rule R91, on the full address and before any table. -/
def isPort (addr : Addr) : Bool := addr = 0x0000 || addr = 0x0001

/-- What answers an access: the port, a device, or a region (rules R71, R91, R103). -/
def target (s : State) (dir : Dir) (addr : Addr) : Target :=
  if isPort addr then .port
  else match regionOf s.cfg dir addr with
    | .io => .device (router addr)
    | r => .region r

/-- A read of the port (rule R92). The levels on the pins are 1 on bits 2..0 and `pins` on bits 7..3. -/
def portRead (s : State) (pins : BitVec 5) (addr : Addr) : Byte :=
  if addr = 0x0000 then s.ddr
  else (s.pdata &&& s.ddr) ||| ((pins ++ (0b111 : BitVec 3)) &&& ~~~s.ddr)

/-- The byte a read of a region returns (rules R100, R101, R102, R105, R107); `answer` is the surroundings'. -/
def regionRead (s : State) (answer : Byte) (addr : Addr) : Region → Byte
  | .ram => s.ram.read addr
  | .basic => Config.romBasic (addr.extractLsb' 0 13)
  | .kernal => Config.romKernal (addr.extractLsb' 0 13)
  | .char => Config.romChar (addr.extractLsb' 0 12)
  | .roml => answer
  | .romh => answer
  | .io => answer
  | .disconnected => answer

/-- `Access(addr, r, _)` in a cycle with inputs `c` (rule R71). Reading changes no state of the block. -/
def busRead (s : State) (c : CycleInput) (addr : Addr) : Byte :=
  if isPort addr then portRead s c.pins addr
  else regionRead s c.answer addr (regionOf s.cfg .read addr)

/-- Recompute `CFG` (rule R97). -/
def recompute (s : State) : State := { s with cfg := cfgOf s.ddr s.pdata s.exrom s.game }

/-- A write of the port, with the synchronous recompute (rules R92, R97). -/
def portWrite (s : State) (addr : Addr) (v : Byte) : State :=
  if addr = 0x0000 then recompute { s with ddr := v } else recompute { s with pdata := v }

/-- A write to a region (rules R98 to R102, R105): only `RAM` changes state of the block; a write to a device or
cartridge window is an output event, one to a disconnected region is dropped. -/
def regionWrite (s : State) (addr : Addr) (v : Byte) : Region → State
  | .ram => { s with ram := s.ram.write addr v }
  | _ => s

/-- `Access(addr, w, v)` (rule R71). -/
def busWrite (s : State) (addr : Addr) (v : Byte) : State :=
  if isPort addr then portWrite s addr v
  else regionWrite s addr v (regionOf s.cfg .write addr)

/-- A mode notification of the cartridge (rules R46, R97, R172 step 3). -/
def notifyCart (s : State) : Option CartLines → State
  | none => s
  | some l => recompute { s with exrom := l.exrom, game := l.game }

/-! The secondary system's memory (spec/60_exceptions.md rule R457). -/

/-- The kind of the 1 KB block of an address (rule R457). -/
def driveKind (addr : Addr) : DriveKind := Config.driveMap (addr.extractLsb' 10 6)

/-- What answers an access of the secondary system. -/
def driveTarget (addr : Addr) : Target :=
  match driveKind addr with
  | .rom => .driveStore
  | .ram => .driveStore
  | .chip1 => .driveChip
  | .chip2 => .driveChip

/-- A read of the secondary system (rule R457). -/
def driveRead (d : Drive) (answer : Byte) (addr : Addr) : Byte :=
  match driveKind addr with
  | .rom => Config.driveRom addr
  | .ram => d.ram.read (Config.driveRamCell addr)
  | .chip1 => answer
  | .chip2 => answer

/-- A write of the secondary system (rule R457). A write to its ROM is dropped: DESIGN CHOICE, assumption 14. -/
def driveWrite (d : Drive) (addr : Addr) (v : Byte) : Drive :=
  match driveKind addr with
  | .ram => { d with ram := d.ram.write (Config.driveRamCell addr) v }
  | .rom => d
  | .chip1 => d
  | .chip2 => d

end Sys2Proof.Machine
end

