-- ==== Sys2Proof/Machine/Ops.lean ====
section
/-! DEFINITION. The shared operations of the interrupt and reset controller: the delay machines and their setters
(spec/60_exceptions.md rules R420 to R424), taking an exception and returning from one (rules R430 to R434), and
the host operations (rules R451, R470, R471, R475). -/

namespace Sys2Proof.Machine

/-! The stack pointer (spec/40_engine.md rules R194, R195). -/

/-- `dec_sp` (rule R194): `SPL <- u8(SPL - 1)`. -/
def decSp (c : Cpu) : Cpu := c.setS (c.s - 1)

/-- `inc_sp` (rule R195): `SPL <- u8(SPL + 1)`. -/
def incSp (c : Cpu) : Cpu := c.setS (c.s + 1)

/-! The delay machines. -/

/-- One advance of a delay machine (rule R422): 1 becomes 2. -/
def Delay.advance : Delay → Delay
  | .idle => .idle
  | .requested => .usable
  | .usable => .usable

/-- The last part of a tick without hold (spec/40_engine.md rule R173). -/
def advanceDelays (c : Cpu) : Cpu := { c with nmiT := c.nmiT.advance, irqT := c.irqT.advance }

/-- `set_irq(level)` (rule R420): level-latched. -/
def setIrq (level : Bool) (c : Cpu) : Cpu :=
  if level then (if c.irqT = .idle then { c with irqT := .requested } else c)
  else { c with irqT := .idle }

/-- `set_nmi(level)` (rule R421): edge-latched. -/
def setNmi (level : Bool) (c : Cpu) : Cpu :=
  let c1 := if level && !c.nmiLine && decide (c.nmiT = .idle) then { c with nmiT := .requested } else c
  { c1 with nmiLine := level }

/-- Step 4 of the system cycle (rule R172): both setters, IRQ first. -/
def setLevels (irq nmi : Bool) (c : Cpu) : Cpu := setNmi nmi (setIrq irq c)

/-! Taking an exception. A break is decided by the dispatch tag that fetches an opcode (`dispatchCommon`) and
performed by the tags of the break sequence, records 185 to 191, shared by BRK, IRQ and NMI (rule R430):
`brkTag`, two `decSp`, `brkP`, `brkVec`, `incA4`, `jmpAbs`. -/

/-- The bits of `BRK_SRCS` (spec/10_state.md rule R41). -/
def srcSw : BitVec 3 := 1

/-- The IRQ bit of `BRK_SRCS` (rule R41). -/
def srcIrq : BitVec 3 := 2

/-- The NMI bit of `BRK_SRCS` (rule R41). -/
def srcNmi : BitVec 3 := 4

/-- The hardware sources a poll finds (spec/40_engine.md rule R201): NMI usable; IRQ usable with `P.I = 0` as it
stands at the start of the boundary. -/
def pollSources (c : Cpu) : BitVec 3 :=
  (if c.nmiT = .usable then srcNmi else 0) |||
    (if c.irqT = .usable ∧ flag c.p .i = false then srcIrq else 0)

/-- `dispatch_common(poll, fix)` (rule R201), with `start` for `OPC_START`: poll, the variant's flag write, `SW`
when the fetched opcode is 0x00 and no source was found, and for a hardware source the rewind of `PC` and the
forced break opcode. -/
def dispatchCommon (start : Byte → Cursor) (poll : Bool) (fix : Cpu → Cpu) (c : Cpu) : Cpu :=
  let hw := if poll then pollSources c else 0
  let c1 := fix c
  let srcs := if hw = 0 ∧ c1.ir = 0x00 then srcSw else hw
  let c2 := { c1 with brkSrcs := srcs }
  let c3 := if srcs &&& (srcNmi ||| srcIrq) ≠ 0 then { c2 with pc := c2.pc - 1, ir := 0x00 } else c2
  { c3 with mcp := start c3.ir }

/-- `brk` (rule R197): a software break steps over its padding byte. -/
def brkTag (c : Cpu) : Cpu := if c.brkSrcs = srcSw then { c with pc := c.pc + 1 } else c

/-- The status byte a break pushes (rule R198): bit 4 is 1 for a software break and 0 for a hardware source. -/
def pushedStatus (c : Cpu) : Byte :=
  if c.brkSrcs = srcSw then forceUB c.p else (c.p ||| 0x20) &&& 0xEF

/-- `brk_p` (rule R198). -/
def brkP (c : Cpu) : Cpu :=
  let c1 := decSp c
  { c1 with d := pushedStatus c1 }

/-- The vector addresses (spec/20_memory.md rule R106, spec/60_exceptions.md rule R411). -/
def vectorNmi : Addr := 0xFFFA

/-- The reset vector (rule R106). -/
def vectorReset : Addr := 0xFFFC

/-- The vector of IRQ and of the software break (rule R106). -/
def vectorIrq : Addr := 0xFFFE

/-- The break in progress takes the NMI vector: its own source is NMI, or a request hijacks it (rule R199). -/
def takesNmi (c : Cpu) : Bool := decide (c.brkSrcs &&& srcNmi ≠ 0) || decide (c.nmiT ≠ .idle)

/-- `brk_vec` (rule R199): the vector latch and hijack point; `P.I <- 1`. -/
def brkVec (c : Cpu) : Cpu :=
  let c1 := decSp c
  let c2 := if takesNmi c1 then { c1 with a4 := vectorNmi, nmiT := .idle } else { c1 with a4 := vectorIrq }
  c2.setFlag .i true

/-- `reset_vec` (rule R200). -/
def resetVec (c : Cpu) : Cpu := ({ decSp c with a4 := vectorReset }).setFlag .i true

/-! Returning from an exception (rule R434): RTI pulls status, `PCL`, `PCH`; the status's own action is `rtiTag`. -/

/-- `rti` (rule R196): runs when `P` has just been loaded from the stack. -/
def rtiTag (c : Cpu) : Cpu := incSp { c with p := forceUB c.p }

/-! The host operations. -/

/-- The engine's part of `warm_reset()` (spec/70_reset_and_hazards.md rule R471). -/
def warmResetCpu (c : Cpu) : Cpu :=
  { ((c.setFlag .i true).setFlag .u true).setFlag .b true with
    nmiT := .idle, irqT := .idle, brkSrcs := 0, mcp := resetStart }

/-- The engine's part of `cold_reset()` before it continues as a warm reset (rule R470). The cells it leaves
unspecified take FREE VALUES drawn at clock `n`, numbered from `base` (assumption 6). -/
def powerOnCpu (n base : Nat) : Cpu where
  pc := pair (Config.powerOnCell n (base + 1)) (Config.powerOnCell n (base + 0))
  sp := pair 0x01 (Config.powerOnCell n (base + 2))
  zpa := 0x0000
  a1 := pair (Config.powerOnCell n (base + 7)) (Config.powerOnCell n (base + 6))
  a2 := pair (Config.powerOnCell n (base + 9)) (Config.powerOnCell n (base + 8))
  a3 := pair (Config.powerOnCell n (base + 11)) (Config.powerOnCell n (base + 10))
  a4 := pair (Config.powerOnCell n (base + 13)) (Config.powerOnCell n (base + 12))
  d := Config.powerOnCell n (base + 14)
  ir := Config.powerOnCell n (base + 15)
  p := Config.powerOnCell n (base + 16)
  a := Config.powerOnCell n (base + 17)
  x := Config.powerOnCell n (base + 18)
  y := Config.powerOnCell n (base + 19)
  mcp := resetStart
  nmiT := .idle
  irqT := .idle
  nmiLine := false
  brkSrcs := 0

/-- `warm_reset()` (rule R471); `cart` is what the cartridge's reset callback notifies, if anything. -/
def warmReset (cart : Option CartLines) (s : State) : State :=
  notifyCart (recompute { s with cpu := warmResetCpu s.cpu, ddr := 0x00, pdata := 0x00 }) cart

/-- `cold_reset()` (rule R470). -/
def coldReset (cart : Option CartLines) (s : State) : State :=
  warmReset cart
    { s with cpu := powerOnCpu s.clock 0, secCnt := 0, exrom := true, game := true,
             ram := Memory.ofPairs (Config.powerOnRam s.clock) }

/-- `resume()` (spec/60_exceptions.md rule R451): past the halt slot; a no-op when not halted (decision D18). -/
def resumeCpu (c : Cpu) : Cpu := if isHalted c.mcp then { c with mcp := resumeSlot } else c

/-- The effect of a host operation (rules R451, R470, R471; on the secondary system R475). -/
def hostEffect (op : HostOp) (s : State) : State :=
  match op with
  | .coldReset cart => coldReset cart s
  | .warmReset cart => warmReset cart s
  | .resume => { s with cpu := resumeCpu s.cpu }
  | .driveColdReset =>
    { s with drive := { s.drive with cpu := warmResetCpu (powerOnCpu s.clock 20),
                                     ram := Memory.ofPairs (Config.drivePowerOnRam s.clock) } }
  | .driveWarmReset => { s with drive := { s.drive with cpu := warmResetCpu s.drive.cpu } }
  | .driveResume => { s with drive := { s.drive with cpu := resumeCpu s.drive.cpu } }

/-- A host operation between cycles; the model's clock advances, so that the next draws are fresh. -/
def applyHost (op : HostOp) (s : State) : State :=
  let s1 := hostEffect op s
  { s1 with clock := s1.clock + 1 }

/-! Snapshot and restore (spec/10_state.md rule R53, spec/70_reset_and_hazards.md rule R491). -/

/-- The snapshot of the block: every element of rule R53. -/
structure Snapshot where
  cpu : Cpu
  ddr : Byte
  pdata : Byte
  exrom : Bool
  game : Bool
  secCnt : Fin Config.secDen
  ram : Memory
  deriving DecidableEq, Repr

/-- Take a snapshot between two cycles (rule R53). -/
def takeSnapshot (s : State) : Snapshot :=
  ⟨s.cpu, s.ddr, s.pdata, s.exrom, s.game, s.secCnt, s.ram⟩

/-- Restore a snapshot; `CFG`, which it need not carry, is recomputed (rules R47, R53, R491). -/
def restoreSnapshot (k : Snapshot) (s : State) : State :=
  recompute { s with cpu := k.cpu, ddr := k.ddr, pdata := k.pdata, exrom := k.exrom, game := k.game,
                     secCnt := k.secCnt, ram := k.ram }

end Sys2Proof.Machine
end

