-- ==== Sys2Proof/Machine/Engine.lean ====
section
/-! DEFINITION. The execution engine: the tags, the tick, the system cycle of both systems and the run of cycles that
makes an instruction (spec/40_engine.md rules R170 to R174, R175 to R206, R230, R231). -/

namespace Sys2Proof.Machine

/-- The action of a tag (rules R175 to R206), after `PC` and `MCP` have been advanced. -/
def tagAction (t : Tag) (c : Cpu) : Cpu :=
  match t with
  | .nmop => c
  | .doOp => doOp c
  | .stReg => stReg c
  | .stSh => stSh c
  | .zpX => zpX c
  | .zpY => zpY c
  | .zpXSt => stReg (zpX c)
  | .zpYSt => stReg (zpY c)
  | .incZpa => incZpa c
  | .absX => absIndex c.x c
  | .absY => absIndex c.y c
  | .absXNs => indexA1 c.x c
  | .absYNs => indexA1 c.y c
  | .jmpAbs => jmpAbs c
  | .incA1l => incA1l c
  | .jmpInd => jmpInd c
  | .incA4 => incA4 c
  | .bpl => branchEntry (!flag c.p .n) c
  | .bmi => branchEntry (flag c.p .n) c
  | .bvc => branchEntry (!flag c.p .v) c
  | .bvs => branchEntry (flag c.p .v) c
  | .bcc => branchEntry (!flag c.p .c) c
  | .bcs => branchEntry (flag c.p .c) c
  | .bne => branchEntry (!flag c.p .z) c
  | .beq => branchEntry (flag c.p .z) c
  | .brPcl => brPcl c
  | .brFix => brFix c
  | .holdInts => brFix c
  | .pha => { c with d := c.a }
  | .php => { c with d := forceUB c.p }
  | .decSp => decSp c
  | .incSp => incSp c
  | .rti => rtiTag c
  | .brk => brkTag c
  | .brkP => brkP c
  | .brkVec => brkVec c
  | .resetVec => resetVec c
  | .dispatch => dispatchCommon opcStart true id c
  | .dispatchCli => dispatchCommon opcStart true (fun c => c.setFlag .i false) c
  | .dispatchSei => dispatchCommon opcStart true (fun c => c.setFlag .i true) c
  | .dispatchPlp => dispatchCommon opcStart true (fun c => { c with p := forceUB c.d }) c
  | .dispatchBrk => dispatchCommon opcStart Config.brkTailPolls id c
  | .hlt => { c with mcp := c.mcp - 1 }

/-- Increment `PC` if the record says so and advance the cursor: the first part of the tick (rule R173). -/
def retire (m : MicroOp) (c : Cpu) : Cpu :=
  { c with pc := if m.inc then c.pc + 1 else c.pc, mcp := c.mcp + 1 }

/-- The tick (rule R173): the bus transaction of `ROM[MCP]` has been done in this cycle. -/
def tick (c : Cpu) : Cpu :=
  let m := romAt c.mcp
  let c1 := tagAction m.tag (retire m c)
  if m.tag = .holdInts then c1 else advanceDelays c1

/-- `bus_target()` (rule R170): address, data cell and direction of the next bus transaction. -/
def busTarget (c : Cpu) : Addr × Cell × Dir :=
  let m := romAt c.mcp
  (c.view m.ar, m.dr, m.rw)

/-- The read of a record fetches a byte of the instruction stream: an opcode, or an operand byte at `PC` (the
records with `inc = 1` but for the dummy read of RTS, and the last operand byte of JMP absolute and JSR, whose tag
`jmp_abs` replaces `PC`; spec/30_encoding.md rule R138). -/
def isStreamRead (m : MicroOp) : Bool :=
  m.rw = .read && (m.dr = .ir ||
    (m.ar = .pc && ((m.inc && !(decide (m.dr = .d) && decide (m.tag = .nmop))) || m.tag = .jmpAbs)))

/-- The inputs of a quiet cycle, number `n` of the run: nothing is claimed, requested or notified, and the answers are
free values (assumptions 2, 3). -/
def quietInput (n : Nat) : CycleInput where
  bw := false
  irq := false
  nmi := false
  cart := none
  answer := Config.deviceAnswer n
  pins := Config.portPins n
  master := none
  driveAnswer := Config.driveAnswer n
  driveIrq := false
  driveNmi := false

/-- The inputs of the coming cycle: the head of the queue, or a quiet cycle. -/
def nextInput (s : State) : CycleInput :=
  match s.inputs with
  | .cycle c :: _ => c
  | _ => quietInput s.clock

/-- The queue after that cycle. -/
def restInputs : List Event → List Event
  | .cycle _ :: rest => rest
  | q => q

/-- The byte the bus read of record `m` delivers: in a stream read the decoded instruction's next byte while there is
one (assumption 11), otherwise what `Access` returns. -/
def readByte (feed : List Byte) (m : MicroOp) (s : State) (c : CycleInput) (addr : Addr) : Byte :=
  match isStreamRead m, feed with
  | true, b :: _ => b
  | _, _ => busRead s c addr

/-- The instruction bytes left after record `m`. -/
def feedAfter (feed : List Byte) (m : MicroOp) : List Byte :=
  if isStreamRead m then feed.tail else feed

/-- The bus transaction of step 2 of the system cycle (rule R172). -/
def transact (feed : List Byte) (c : CycleInput) (s : State) : State :=
  let m := romAt s.cpu.mcp
  let addr := s.cpu.view m.ar
  match m.rw with
  | .read =>
    let b := readByte feed m s c addr
    { s with cpu := s.cpu.setCell m.dr b,
             trace := s.trace ++ [BusEvent.access addr .read b (target s .read addr) (isStreamRead m)] }
  | .write =>
    let b := s.cpu.cell m.dr
    { busWrite s addr b with trace := s.trace ++ [BusEvent.access addr .write b (target s .write addr) false] }

/-- Step 2 of the system cycle when the bus is not withheld: the transaction, then the tick (rule R172). -/
def cpuCycle (feed : List Byte) (c : CycleInput) (s : State) : State :=
  let s1 := transact feed c s
  { s1 with cpu := tick s1.cpu }

/-- Step 2 when the bus is withheld (rules R172, R174): no CPU access and no tick; the withholding master may write RAM. -/
def withheldCycle (c : CycleInput) (s : State) : State :=
  { s with ram := (match c.master with
                   | some w => s.ram.write w.1 w.2
                   | none => s.ram),
           trace := s.trace ++ [BusEvent.withheld] }

/-- One cycle of the secondary system (spec/60_exceptions.md rule R457): steps 2 and 4 with `BW = 0`. -/
def driveCycle (c : CycleInput) (d : Drive) : Drive :=
  let m := romAt d.cpu.mcp
  let addr := d.cpu.view m.ar
  let d1 := match m.rw with
    | .read =>
      let b := driveRead d c.driveAnswer addr
      { d with cpu := d.cpu.setCell m.dr b,
               trace := d.trace ++ [BusEvent.access addr .read b (driveTarget addr) (isStreamRead m)] }
    | .write =>
      let b := d.cpu.cell m.dr
      { driveWrite d addr b with trace := d.trace ++ [BusEvent.access addr .write b (driveTarget addr) false] }
  { d1 with cpu := setLevels c.driveIrq c.driveNmi (tick d1.cpu) }

/-- Step 5 of the system cycle (rule R456): in the cycle in which `SEC_CNT` reaches `SEC_DEN` the secondary system
is skipped. -/
def secondaryStep (c : CycleInput) (s : State) : State :=
  if h : s.secCnt.val + 1 < Config.secDen then
    { s with secCnt := ⟨s.secCnt.val + 1, h⟩, drive := driveCycle c s.drive }
  else { s with secCnt := ⟨0, by decide⟩ }

/-- One system cycle (rule R172), steps 1 to 5, with the bytes `feed` of the instruction being fetched. -/
def systemCycle (feed : List Byte) (s : State) : State :=
  let c := nextInput s
  let s0 := { s with inputs := restInputs s.inputs }
  let s1 := if c.bw then withheldCycle c s0 else cpuCycle feed c s0
  let s2 := notifyCart s1 c.cart
  let s3 := { s2 with cpu := setLevels c.irq c.nmi s2.cpu }
  let s4 := secondaryStep c s3
  { s4 with clock := s4.clock + 1 }

/-- The instruction bytes left after the coming cycle: a withheld cycle fetches none. -/
def feedAfterCycle (feed : List Byte) (s : State) : List Byte :=
  if (nextInput s).bw then feed else feedAfter feed (romAt s.cpu.mcp)

/-- Cycles until a boundary, the halt slot or a host operation: at least one cycle, and a withheld cycle never ends
the run (rules R230, R231, R174). A host operation at the head of the queue is performed and ends the run
(assumption 20). `fuel` bounds the number of cycles. -/
def runCycles : Nat → List Byte → State → State
  | 0, _, s => s
  | fuel + 1, feed, s =>
    match s.inputs with
    | .host op :: rest => applyHost op { s with inputs := rest }
    | _ =>
      let s1 := systemCycle feed s
      if !(nextInput s).bw && (isBoundary s1.cpu.mcp || isHalted s1.cpu.mcp) then s1
      else runCycles fuel (feedAfterCycle feed s) s1

/-- Cycles enough for any run: one for each queued entry, and eight, the longest sequence with its opcode fetch
(rule R222). -/
def enoughFuel (s : State) : Nat := s.inputs.length + 9

/-- The start of a step: the event records of the last step are dropped (assumption 18). -/
def clearTrace (s : State) : State := { s with trace := [], drive := { s.drive with trace := [] } }

/-- The run of system cycles from `s` to its end, with the instruction bytes `feed`. -/
def runSequence (feed : List Byte) (s : State) : State := runCycles (enoughFuel s) feed (clearTrace s)

/-- A state at a boundary: the next cycle is an opcode fetch. Off a boundary, where no step calls `exec`, the cursor
is put on a plain dispatch record (DESIGN CHOICE, assumption 12). -/
def atFetch (s : State) : State :=
  if isBoundary s.cpu.mcp then s else { s with cpu := { s.cpu with mcp := 1 } }

/-- The meaning shared by all opcodes (rule R231): from the boundary, the cycles of the instruction whose bytes are
`bytes`, opcode first: its opcode fetch with the poll and the boundary's deferred flag write, then its sequence, to
the next boundary. `OPC_START`, the ROM and `do_op` select what the opcode does. -/
def runInstr (bytes : List Byte) (s : State) : Result := .next (runSequence bytes (atFetch s))

/-- The reset pseudo-instruction (spec/70_reset_and_hazards.md rule R472): the sequence of `OPC_START[256]`. -/
def runReset (s : State) : Result := .next (runSequence [] { s with cpu := { s.cpu with mcp := resetStart } })

end Sys2Proof.Machine
end

