-- ==== Sys2Proof/Machine/Alu.lean ====
section
/-! DEFINITION. Logic, add, subtract, compare, bit test (spec/42_alu.md rules R284 to R292): the meaning of each
opcode, the run of its micro-op sequence (`runInstr`) on its own bytes. -/

namespace Sys2Proof.Machine

/-- ORA izx, opcode 01 (rule R284): sequence `IZX_R`, `do_op`; 6 cycles. -/
def execOraIzx (zp : Byte) (s : State) : Result := runInstr [0x01, zp] s

/-- ORA zp, opcode 05 (rule R284): sequence `ZP_R`, `do_op`; 3 cycles. -/
def execOraZp (zp : Byte) (s : State) : Result := runInstr [0x05, zp] s

/-- ORA imm, opcode 09 (rule R284): sequence `IMM`, `do_op`; 2 cycles. -/
def execOraImm (v : Byte) (s : State) : Result := runInstr [0x09, v] s

/-- ORA abs, opcode 0D (rule R284): sequence `ABS_R`, `do_op`; 4 cycles. -/
def execOraAbs (addr : Addr) (s : State) : Result := runInstr [0x0D, lo addr, hi addr] s

/-- ORA izy, opcode 11 (rule R284): sequence `IZY_R`, `do_op`; 5 cycles, +1 if the index addition carries into the high byte. -/
def execOraIzy (zp : Byte) (s : State) : Result := runInstr [0x11, zp] s

/-- ORA zpx, opcode 15 (rule R284): sequence `ZPX_R`, `do_op`; 4 cycles. -/
def execOraZpx (zp : Byte) (s : State) : Result := runInstr [0x15, zp] s

/-- ORA aby, opcode 19 (rule R284): sequence `ABY_R`, `do_op`; 4 cycles, +1 if the index addition carries into the high byte. -/
def execOraAby (addr : Addr) (s : State) : Result := runInstr [0x19, lo addr, hi addr] s

/-- ORA abx, opcode 1D (rule R284): sequence `ABX_R`, `do_op`; 4 cycles, +1 if the index addition carries into the high byte. -/
def execOraAbx (addr : Addr) (s : State) : Result := runInstr [0x1D, lo addr, hi addr] s

/-- AND izx, opcode 21 (rule R285): sequence `IZX_R`, `do_op`; 6 cycles. -/
def execAndIzx (zp : Byte) (s : State) : Result := runInstr [0x21, zp] s

/-- BIT zp, opcode 24 (rule R292): sequence `ZP_R`, `do_op`; 3 cycles. -/
def execBitZp (zp : Byte) (s : State) : Result := runInstr [0x24, zp] s

/-- AND zp, opcode 25 (rule R285): sequence `ZP_R`, `do_op`; 3 cycles. -/
def execAndZp (zp : Byte) (s : State) : Result := runInstr [0x25, zp] s

/-- AND imm, opcode 29 (rule R285): sequence `IMM`, `do_op`; 2 cycles. -/
def execAndImm (v : Byte) (s : State) : Result := runInstr [0x29, v] s

/-- BIT abs, opcode 2C (rule R292): sequence `ABS_R`, `do_op`; 4 cycles. -/
def execBitAbs (addr : Addr) (s : State) : Result := runInstr [0x2C, lo addr, hi addr] s

/-- AND abs, opcode 2D (rule R285): sequence `ABS_R`, `do_op`; 4 cycles. -/
def execAndAbs (addr : Addr) (s : State) : Result := runInstr [0x2D, lo addr, hi addr] s

/-- AND izy, opcode 31 (rule R285): sequence `IZY_R`, `do_op`; 5 cycles, +1 if the index addition carries into the high byte. -/
def execAndIzy (zp : Byte) (s : State) : Result := runInstr [0x31, zp] s

/-- AND zpx, opcode 35 (rule R285): sequence `ZPX_R`, `do_op`; 4 cycles. -/
def execAndZpx (zp : Byte) (s : State) : Result := runInstr [0x35, zp] s

/-- AND aby, opcode 39 (rule R285): sequence `ABY_R`, `do_op`; 4 cycles, +1 if the index addition carries into the high byte. -/
def execAndAby (addr : Addr) (s : State) : Result := runInstr [0x39, lo addr, hi addr] s

/-- AND abx, opcode 3D (rule R285): sequence `ABX_R`, `do_op`; 4 cycles, +1 if the index addition carries into the high byte. -/
def execAndAbx (addr : Addr) (s : State) : Result := runInstr [0x3D, lo addr, hi addr] s

/-- EOR izx, opcode 41 (rule R286): sequence `IZX_R`, `do_op`; 6 cycles. -/
def execEorIzx (zp : Byte) (s : State) : Result := runInstr [0x41, zp] s

/-- EOR zp, opcode 45 (rule R286): sequence `ZP_R`, `do_op`; 3 cycles. -/
def execEorZp (zp : Byte) (s : State) : Result := runInstr [0x45, zp] s

/-- EOR imm, opcode 49 (rule R286): sequence `IMM`, `do_op`; 2 cycles. -/
def execEorImm (v : Byte) (s : State) : Result := runInstr [0x49, v] s

/-- EOR abs, opcode 4D (rule R286): sequence `ABS_R`, `do_op`; 4 cycles. -/
def execEorAbs (addr : Addr) (s : State) : Result := runInstr [0x4D, lo addr, hi addr] s

/-- EOR izy, opcode 51 (rule R286): sequence `IZY_R`, `do_op`; 5 cycles, +1 if the index addition carries into the high byte. -/
def execEorIzy (zp : Byte) (s : State) : Result := runInstr [0x51, zp] s

/-- EOR zpx, opcode 55 (rule R286): sequence `ZPX_R`, `do_op`; 4 cycles. -/
def execEorZpx (zp : Byte) (s : State) : Result := runInstr [0x55, zp] s

/-- EOR aby, opcode 59 (rule R286): sequence `ABY_R`, `do_op`; 4 cycles, +1 if the index addition carries into the high byte. -/
def execEorAby (addr : Addr) (s : State) : Result := runInstr [0x59, lo addr, hi addr] s

/-- EOR abx, opcode 5D (rule R286): sequence `ABX_R`, `do_op`; 4 cycles, +1 if the index addition carries into the high byte. -/
def execEorAbx (addr : Addr) (s : State) : Result := runInstr [0x5D, lo addr, hi addr] s

/-- ADC izx, opcode 61 (rule R287): sequence `IZX_R`, `do_op`; 6 cycles. -/
def execAdcIzx (zp : Byte) (s : State) : Result := runInstr [0x61, zp] s

/-- ADC zp, opcode 65 (rule R287): sequence `ZP_R`, `do_op`; 3 cycles. -/
def execAdcZp (zp : Byte) (s : State) : Result := runInstr [0x65, zp] s

/-- ADC imm, opcode 69 (rule R287): sequence `IMM`, `do_op`; 2 cycles. -/
def execAdcImm (v : Byte) (s : State) : Result := runInstr [0x69, v] s

/-- ADC abs, opcode 6D (rule R287): sequence `ABS_R`, `do_op`; 4 cycles. -/
def execAdcAbs (addr : Addr) (s : State) : Result := runInstr [0x6D, lo addr, hi addr] s

/-- ADC izy, opcode 71 (rule R287): sequence `IZY_R`, `do_op`; 5 cycles, +1 if the index addition carries into the high byte. -/
def execAdcIzy (zp : Byte) (s : State) : Result := runInstr [0x71, zp] s

/-- ADC zpx, opcode 75 (rule R287): sequence `ZPX_R`, `do_op`; 4 cycles. -/
def execAdcZpx (zp : Byte) (s : State) : Result := runInstr [0x75, zp] s

/-- ADC aby, opcode 79 (rule R287): sequence `ABY_R`, `do_op`; 4 cycles, +1 if the index addition carries into the high byte. -/
def execAdcAby (addr : Addr) (s : State) : Result := runInstr [0x79, lo addr, hi addr] s

/-- ADC abx, opcode 7D (rule R287): sequence `ABX_R`, `do_op`; 4 cycles, +1 if the index addition carries into the high byte. -/
def execAdcAbx (addr : Addr) (s : State) : Result := runInstr [0x7D, lo addr, hi addr] s

/-- CPY imm, opcode C0 (rule R291): sequence `IMM`, `do_op`; 2 cycles. -/
def execCpyImm (v : Byte) (s : State) : Result := runInstr [0xC0, v] s

/-- CMP izx, opcode C1 (rule R289): sequence `IZX_R`, `do_op`; 6 cycles. -/
def execCmpIzx (zp : Byte) (s : State) : Result := runInstr [0xC1, zp] s

/-- CPY zp, opcode C4 (rule R291): sequence `ZP_R`, `do_op`; 3 cycles. -/
def execCpyZp (zp : Byte) (s : State) : Result := runInstr [0xC4, zp] s

/-- CMP zp, opcode C5 (rule R289): sequence `ZP_R`, `do_op`; 3 cycles. -/
def execCmpZp (zp : Byte) (s : State) : Result := runInstr [0xC5, zp] s

/-- CMP imm, opcode C9 (rule R289): sequence `IMM`, `do_op`; 2 cycles. -/
def execCmpImm (v : Byte) (s : State) : Result := runInstr [0xC9, v] s

/-- CPY abs, opcode CC (rule R291): sequence `ABS_R`, `do_op`; 4 cycles. -/
def execCpyAbs (addr : Addr) (s : State) : Result := runInstr [0xCC, lo addr, hi addr] s

/-- CMP abs, opcode CD (rule R289): sequence `ABS_R`, `do_op`; 4 cycles. -/
def execCmpAbs (addr : Addr) (s : State) : Result := runInstr [0xCD, lo addr, hi addr] s

/-- CMP izy, opcode D1 (rule R289): sequence `IZY_R`, `do_op`; 5 cycles, +1 if the index addition carries into the high byte. -/
def execCmpIzy (zp : Byte) (s : State) : Result := runInstr [0xD1, zp] s

/-- CMP zpx, opcode D5 (rule R289): sequence `ZPX_R`, `do_op`; 4 cycles. -/
def execCmpZpx (zp : Byte) (s : State) : Result := runInstr [0xD5, zp] s

/-- CMP aby, opcode D9 (rule R289): sequence `ABY_R`, `do_op`; 4 cycles, +1 if the index addition carries into the high byte. -/
def execCmpAby (addr : Addr) (s : State) : Result := runInstr [0xD9, lo addr, hi addr] s

/-- CMP abx, opcode DD (rule R289): sequence `ABX_R`, `do_op`; 4 cycles, +1 if the index addition carries into the high byte. -/
def execCmpAbx (addr : Addr) (s : State) : Result := runInstr [0xDD, lo addr, hi addr] s

/-- CPX imm, opcode E0 (rule R290): sequence `IMM`, `do_op`; 2 cycles. -/
def execCpxImm (v : Byte) (s : State) : Result := runInstr [0xE0, v] s

/-- SBC izx, opcode E1 (rule R288): sequence `IZX_R`, `do_op`; 6 cycles. -/
def execSbcIzx (zp : Byte) (s : State) : Result := runInstr [0xE1, zp] s

/-- CPX zp, opcode E4 (rule R290): sequence `ZP_R`, `do_op`; 3 cycles. -/
def execCpxZp (zp : Byte) (s : State) : Result := runInstr [0xE4, zp] s

/-- SBC zp, opcode E5 (rule R288): sequence `ZP_R`, `do_op`; 3 cycles. -/
def execSbcZp (zp : Byte) (s : State) : Result := runInstr [0xE5, zp] s

/-- SBC imm, opcode E9 (rule R288): sequence `IMM`, `do_op`; 2 cycles. -/
def execSbcImm (v : Byte) (s : State) : Result := runInstr [0xE9, v] s

/-- CPX abs, opcode EC (rule R290): sequence `ABS_R`, `do_op`; 4 cycles. -/
def execCpxAbs (addr : Addr) (s : State) : Result := runInstr [0xEC, lo addr, hi addr] s

/-- SBC abs, opcode ED (rule R288): sequence `ABS_R`, `do_op`; 4 cycles. -/
def execSbcAbs (addr : Addr) (s : State) : Result := runInstr [0xED, lo addr, hi addr] s

/-- SBC izy, opcode F1 (rule R288): sequence `IZY_R`, `do_op`; 5 cycles, +1 if the index addition carries into the high byte. -/
def execSbcIzy (zp : Byte) (s : State) : Result := runInstr [0xF1, zp] s

/-- SBC zpx, opcode F5 (rule R288): sequence `ZPX_R`, `do_op`; 4 cycles. -/
def execSbcZpx (zp : Byte) (s : State) : Result := runInstr [0xF5, zp] s

/-- SBC aby, opcode F9 (rule R288): sequence `ABY_R`, `do_op`; 4 cycles, +1 if the index addition carries into the high byte. -/
def execSbcAby (addr : Addr) (s : State) : Result := runInstr [0xF9, lo addr, hi addr] s

/-- SBC abx, opcode FD (rule R288): sequence `ABX_R`, `do_op`; 4 cycles, +1 if the index addition carries into the high byte. -/
def execSbcAbx (addr : Addr) (s : State) : Result := runInstr [0xFD, lo addr, hi addr] s

end Sys2Proof.Machine
end

