-- ==== Sys2Proof/Machine/Flow.lean ====
section
/-! DEFINITION. Jumps, subroutines, returns, software break, branches (spec/44_flow.md rules R320 to R333): the meaning of each
opcode, the run of its micro-op sequence (`runInstr`) on its own bytes. -/

namespace Sys2Proof.Machine

/-- BRK imp, opcode 00 (rule R324): sequence `BRK`; 7 cycles. -/
def execBrk (s : State) : Result := runInstr [0x00] s

/-- BPL rel, opcode 10 (rule R325): sequence `BPL`, branch entry `bpl`; 2 cycles, +1 if taken, +1 more if the target page differs. -/
def execBplRel (disp : Byte) (s : State) : Result := runInstr [0x10, disp] s

/-- JSR abs, opcode 20 (rule R321): sequence `JSR`; 6 cycles. -/
def execJsrAbs (addr : Addr) (s : State) : Result := runInstr [0x20, lo addr, hi addr] s

/-- BMI rel, opcode 30 (rule R326): sequence `BMI`, branch entry `bmi`; 2 cycles, +1 if taken, +1 more if the target page differs. -/
def execBmiRel (disp : Byte) (s : State) : Result := runInstr [0x30, disp] s

/-- RTI imp, opcode 40 (rule R323): sequence `RTI`; 6 cycles. -/
def execRti (s : State) : Result := runInstr [0x40] s

/-- JMP abs, opcode 4C (rule R320): sequence `JMP_ABS`; 3 cycles. -/
def execJmpAbs (addr : Addr) (s : State) : Result := runInstr [0x4C, lo addr, hi addr] s

/-- BVC rel, opcode 50 (rule R327): sequence `BVC`, branch entry `bvc`; 2 cycles, +1 if taken, +1 more if the target page differs. -/
def execBvcRel (disp : Byte) (s : State) : Result := runInstr [0x50, disp] s

/-- RTS imp, opcode 60 (rule R322): sequence `RTS`; 6 cycles. -/
def execRts (s : State) : Result := runInstr [0x60] s

/-- JMP ind, opcode 6C (rule R320): sequence `JMP_IND`; 5 cycles. -/
def execJmpInd (addr : Addr) (s : State) : Result := runInstr [0x6C, lo addr, hi addr] s

/-- BVS rel, opcode 70 (rule R328): sequence `BVS`, branch entry `bvs`; 2 cycles, +1 if taken, +1 more if the target page differs. -/
def execBvsRel (disp : Byte) (s : State) : Result := runInstr [0x70, disp] s

/-- BCC rel, opcode 90 (rule R329): sequence `BCC`, branch entry `bcc`; 2 cycles, +1 if taken, +1 more if the target page differs. -/
def execBccRel (disp : Byte) (s : State) : Result := runInstr [0x90, disp] s

/-- BCS rel, opcode B0 (rule R330): sequence `BCS`, branch entry `bcs`; 2 cycles, +1 if taken, +1 more if the target page differs. -/
def execBcsRel (disp : Byte) (s : State) : Result := runInstr [0xB0, disp] s

/-- BNE rel, opcode D0 (rule R331): sequence `BNE`, branch entry `bne`; 2 cycles, +1 if taken, +1 more if the target page differs. -/
def execBneRel (disp : Byte) (s : State) : Result := runInstr [0xD0, disp] s

/-- BEQ rel, opcode F0 (rule R332): sequence `BEQ`, branch entry `beq`; 2 cycles, +1 if taken, +1 more if the target page differs. -/
def execBeqRel (disp : Byte) (s : State) : Result := runInstr [0xF0, disp] s

end Sys2Proof.Machine
end

