-- ==== Sys2Proof/Machine/LoadStore.lean ====
section
/-! DEFINITION. Loads, stores and register transfers (spec/41_load_store_transfer.md rules R260 to R271): the meaning of each
opcode, the run of its micro-op sequence (`runInstr`) on its own bytes. -/

namespace Sys2Proof.Machine

/-- STA izx, opcode 81 (rule R263): sequence `IZX_W`, `st_reg`; 6 cycles. -/
def execStaIzx (zp : Byte) (s : State) : Result := runInstr [0x81, zp] s

/-- STY zp, opcode 84 (rule R265): sequence `ZP_W`, `st_reg`; 3 cycles. -/
def execStyZp (zp : Byte) (s : State) : Result := runInstr [0x84, zp] s

/-- STA zp, opcode 85 (rule R263): sequence `ZP_W`, `st_reg`; 3 cycles. -/
def execStaZp (zp : Byte) (s : State) : Result := runInstr [0x85, zp] s

/-- STX zp, opcode 86 (rule R264): sequence `ZP_W`, `st_reg`; 3 cycles. -/
def execStxZp (zp : Byte) (s : State) : Result := runInstr [0x86, zp] s

/-- TXA imp, opcode 8A (rule R268): sequence `IMP`, `do_op`; 2 cycles. -/
def execTxa (s : State) : Result := runInstr [0x8A] s

/-- STY abs, opcode 8C (rule R265): sequence `ABS_W`, `st_reg`; 4 cycles. -/
def execStyAbs (addr : Addr) (s : State) : Result := runInstr [0x8C, lo addr, hi addr] s

/-- STA abs, opcode 8D (rule R263): sequence `ABS_W`, `st_reg`; 4 cycles. -/
def execStaAbs (addr : Addr) (s : State) : Result := runInstr [0x8D, lo addr, hi addr] s

/-- STX abs, opcode 8E (rule R264): sequence `ABS_W`, `st_reg`; 4 cycles. -/
def execStxAbs (addr : Addr) (s : State) : Result := runInstr [0x8E, lo addr, hi addr] s

/-- STA izy, opcode 91 (rule R263): sequence `IZY_W`, `st_reg`; 6 cycles. -/
def execStaIzy (zp : Byte) (s : State) : Result := runInstr [0x91, zp] s

/-- STY zpx, opcode 94 (rule R265): sequence `ZPX_W`, `st_reg`; 4 cycles. -/
def execStyZpx (zp : Byte) (s : State) : Result := runInstr [0x94, zp] s

/-- STA zpx, opcode 95 (rule R263): sequence `ZPX_W`, `st_reg`; 4 cycles. -/
def execStaZpx (zp : Byte) (s : State) : Result := runInstr [0x95, zp] s

/-- STX zpy, opcode 96 (rule R264): sequence `ZPY_W`, `st_reg`; 4 cycles. -/
def execStxZpy (zp : Byte) (s : State) : Result := runInstr [0x96, zp] s

/-- TYA imp, opcode 98 (rule R269): sequence `IMP`, `do_op`; 2 cycles. -/
def execTya (s : State) : Result := runInstr [0x98] s

/-- STA aby, opcode 99 (rule R263): sequence `ABY_W`, `st_reg`; 5 cycles. -/
def execStaAby (addr : Addr) (s : State) : Result := runInstr [0x99, lo addr, hi addr] s

/-- TXS imp, opcode 9A (rule R271): sequence `IMP`, `do_op`; 2 cycles. -/
def execTxs (s : State) : Result := runInstr [0x9A] s

/-- STA abx, opcode 9D (rule R263): sequence `ABX_W`, `st_reg`; 5 cycles. -/
def execStaAbx (addr : Addr) (s : State) : Result := runInstr [0x9D, lo addr, hi addr] s

/-- LDY imm, opcode A0 (rule R262): sequence `IMM`, `do_op`; 2 cycles. -/
def execLdyImm (v : Byte) (s : State) : Result := runInstr [0xA0, v] s

/-- LDA izx, opcode A1 (rule R260): sequence `IZX_R`, `do_op`; 6 cycles. -/
def execLdaIzx (zp : Byte) (s : State) : Result := runInstr [0xA1, zp] s

/-- LDX imm, opcode A2 (rule R261): sequence `IMM`, `do_op`; 2 cycles. -/
def execLdxImm (v : Byte) (s : State) : Result := runInstr [0xA2, v] s

/-- LDY zp, opcode A4 (rule R262): sequence `ZP_R`, `do_op`; 3 cycles. -/
def execLdyZp (zp : Byte) (s : State) : Result := runInstr [0xA4, zp] s

/-- LDA zp, opcode A5 (rule R260): sequence `ZP_R`, `do_op`; 3 cycles. -/
def execLdaZp (zp : Byte) (s : State) : Result := runInstr [0xA5, zp] s

/-- LDX zp, opcode A6 (rule R261): sequence `ZP_R`, `do_op`; 3 cycles. -/
def execLdxZp (zp : Byte) (s : State) : Result := runInstr [0xA6, zp] s

/-- TAY imp, opcode A8 (rule R267): sequence `IMP`, `do_op`; 2 cycles. -/
def execTay (s : State) : Result := runInstr [0xA8] s

/-- LDA imm, opcode A9 (rule R260): sequence `IMM`, `do_op`; 2 cycles. -/
def execLdaImm (v : Byte) (s : State) : Result := runInstr [0xA9, v] s

/-- TAX imp, opcode AA (rule R266): sequence `IMP`, `do_op`; 2 cycles. -/
def execTax (s : State) : Result := runInstr [0xAA] s

/-- LDY abs, opcode AC (rule R262): sequence `ABS_R`, `do_op`; 4 cycles. -/
def execLdyAbs (addr : Addr) (s : State) : Result := runInstr [0xAC, lo addr, hi addr] s

/-- LDA abs, opcode AD (rule R260): sequence `ABS_R`, `do_op`; 4 cycles. -/
def execLdaAbs (addr : Addr) (s : State) : Result := runInstr [0xAD, lo addr, hi addr] s

/-- LDX abs, opcode AE (rule R261): sequence `ABS_R`, `do_op`; 4 cycles. -/
def execLdxAbs (addr : Addr) (s : State) : Result := runInstr [0xAE, lo addr, hi addr] s

/-- LDA izy, opcode B1 (rule R260): sequence `IZY_R`, `do_op`; 5 cycles, +1 if the index addition carries into the high byte. -/
def execLdaIzy (zp : Byte) (s : State) : Result := runInstr [0xB1, zp] s

/-- LDY zpx, opcode B4 (rule R262): sequence `ZPX_R`, `do_op`; 4 cycles. -/
def execLdyZpx (zp : Byte) (s : State) : Result := runInstr [0xB4, zp] s

/-- LDA zpx, opcode B5 (rule R260): sequence `ZPX_R`, `do_op`; 4 cycles. -/
def execLdaZpx (zp : Byte) (s : State) : Result := runInstr [0xB5, zp] s

/-- LDX zpy, opcode B6 (rule R261): sequence `ZPY_R`, `do_op`; 4 cycles. -/
def execLdxZpy (zp : Byte) (s : State) : Result := runInstr [0xB6, zp] s

/-- LDA aby, opcode B9 (rule R260): sequence `ABY_R`, `do_op`; 4 cycles, +1 if the index addition carries into the high byte. -/
def execLdaAby (addr : Addr) (s : State) : Result := runInstr [0xB9, lo addr, hi addr] s

/-- TSX imp, opcode BA (rule R270): sequence `IMP`, `do_op`; 2 cycles. -/
def execTsx (s : State) : Result := runInstr [0xBA] s

/-- LDY abx, opcode BC (rule R262): sequence `ABX_R`, `do_op`; 4 cycles, +1 if the index addition carries into the high byte. -/
def execLdyAbx (addr : Addr) (s : State) : Result := runInstr [0xBC, lo addr, hi addr] s

/-- LDA abx, opcode BD (rule R260): sequence `ABX_R`, `do_op`; 4 cycles, +1 if the index addition carries into the high byte. -/
def execLdaAbx (addr : Addr) (s : State) : Result := runInstr [0xBD, lo addr, hi addr] s

/-- LDX aby, opcode BE (rule R261): sequence `ABY_R`, `do_op`; 4 cycles, +1 if the index addition carries into the high byte. -/
def execLdxAby (addr : Addr) (s : State) : Result := runInstr [0xBE, lo addr, hi addr] s

end Sys2Proof.Machine
end

