-- ==== Sys2Proof/Machine/Reset.lean ====
section
/-! DEFINITION. The reset pseudo-instruction (spec/70_reset_and_hazards.md rule R472, spec/30_encoding.md rule R146). -/

namespace Sys2Proof.Machine

/-- RESET, entry 256 of `OPC_START` (rule R472): sequence `RESET`, seven cycles to the first opcode fetch. -/
def execReset (s : State) : Result := runReset s

end Sys2Proof.Machine
end

