-- ==== Sys2Proof/Machine/ShiftRmw.lean ====
section
/-! DEFINITION. Shifts, rotates, increments, decrements (spec/43_shift_rmw.md rules R304 to R313): the meaning of each
opcode, the run of its micro-op sequence (`runInstr`) on its own bytes. -/

namespace Sys2Proof.Machine

/-- ASL zp, opcode 06 (rule R304): sequence `ZP_M`, `do_op`; 5 cycles. -/
def execAslZp (zp : Byte) (s : State) : Result := runInstr [0x06, zp] s

/-- ASL acc, opcode 0A (rule R304): sequence `IMP`, `do_op`; 2 cycles. -/
def execAslAcc (s : State) : Result := runInstr [0x0A] s

/-- ASL abs, opcode 0E (rule R304): sequence `ABS_M`, `do_op`; 6 cycles. -/
def execAslAbs (addr : Addr) (s : State) : Result := runInstr [0x0E, lo addr, hi addr] s

/-- ASL zpx, opcode 16 (rule R304): sequence `ZPX_M`, `do_op`; 6 cycles. -/
def execAslZpx (zp : Byte) (s : State) : Result := runInstr [0x16, zp] s

/-- ASL abx, opcode 1E (rule R304): sequence `ABX_M`, `do_op`; 7 cycles. -/
def execAslAbx (addr : Addr) (s : State) : Result := runInstr [0x1E, lo addr, hi addr] s

/-- ROL zp, opcode 26 (rule R306): sequence `ZP_M`, `do_op`; 5 cycles. -/
def execRolZp (zp : Byte) (s : State) : Result := runInstr [0x26, zp] s

/-- ROL acc, opcode 2A (rule R306): sequence `IMP`, `do_op`; 2 cycles. -/
def execRolAcc (s : State) : Result := runInstr [0x2A] s

/-- ROL abs, opcode 2E (rule R306): sequence `ABS_M`, `do_op`; 6 cycles. -/
def execRolAbs (addr : Addr) (s : State) : Result := runInstr [0x2E, lo addr, hi addr] s

/-- ROL zpx, opcode 36 (rule R306): sequence `ZPX_M`, `do_op`; 6 cycles. -/
def execRolZpx (zp : Byte) (s : State) : Result := runInstr [0x36, zp] s

/-- ROL abx, opcode 3E (rule R306): sequence `ABX_M`, `do_op`; 7 cycles. -/
def execRolAbx (addr : Addr) (s : State) : Result := runInstr [0x3E, lo addr, hi addr] s

/-- LSR zp, opcode 46 (rule R305): sequence `ZP_M`, `do_op`; 5 cycles. -/
def execLsrZp (zp : Byte) (s : State) : Result := runInstr [0x46, zp] s

/-- LSR acc, opcode 4A (rule R305): sequence `IMP`, `do_op`; 2 cycles. -/
def execLsrAcc (s : State) : Result := runInstr [0x4A] s

/-- LSR abs, opcode 4E (rule R305): sequence `ABS_M`, `do_op`; 6 cycles. -/
def execLsrAbs (addr : Addr) (s : State) : Result := runInstr [0x4E, lo addr, hi addr] s

/-- LSR zpx, opcode 56 (rule R305): sequence `ZPX_M`, `do_op`; 6 cycles. -/
def execLsrZpx (zp : Byte) (s : State) : Result := runInstr [0x56, zp] s

/-- LSR abx, opcode 5E (rule R305): sequence `ABX_M`, `do_op`; 7 cycles. -/
def execLsrAbx (addr : Addr) (s : State) : Result := runInstr [0x5E, lo addr, hi addr] s

/-- ROR zp, opcode 66 (rule R307): sequence `ZP_M`, `do_op`; 5 cycles. -/
def execRorZp (zp : Byte) (s : State) : Result := runInstr [0x66, zp] s

/-- ROR acc, opcode 6A (rule R307): sequence `IMP`, `do_op`; 2 cycles. -/
def execRorAcc (s : State) : Result := runInstr [0x6A] s

/-- ROR abs, opcode 6E (rule R307): sequence `ABS_M`, `do_op`; 6 cycles. -/
def execRorAbs (addr : Addr) (s : State) : Result := runInstr [0x6E, lo addr, hi addr] s

/-- ROR zpx, opcode 76 (rule R307): sequence `ZPX_M`, `do_op`; 6 cycles. -/
def execRorZpx (zp : Byte) (s : State) : Result := runInstr [0x76, zp] s

/-- ROR abx, opcode 7E (rule R307): sequence `ABX_M`, `do_op`; 7 cycles. -/
def execRorAbx (addr : Addr) (s : State) : Result := runInstr [0x7E, lo addr, hi addr] s

/-- DEY imp, opcode 88 (rule R313): sequence `IMP`, `do_op`; 2 cycles. -/
def execDey (s : State) : Result := runInstr [0x88] s

/-- DEC zp, opcode C6 (rule R309): sequence `ZP_M`, `do_op`; 5 cycles. -/
def execDecZp (zp : Byte) (s : State) : Result := runInstr [0xC6, zp] s

/-- INY imp, opcode C8 (rule R311): sequence `IMP`, `do_op`; 2 cycles. -/
def execIny (s : State) : Result := runInstr [0xC8] s

/-- DEX imp, opcode CA (rule R312): sequence `IMP`, `do_op`; 2 cycles. -/
def execDex (s : State) : Result := runInstr [0xCA] s

/-- DEC abs, opcode CE (rule R309): sequence `ABS_M`, `do_op`; 6 cycles. -/
def execDecAbs (addr : Addr) (s : State) : Result := runInstr [0xCE, lo addr, hi addr] s

/-- DEC zpx, opcode D6 (rule R309): sequence `ZPX_M`, `do_op`; 6 cycles. -/
def execDecZpx (zp : Byte) (s : State) : Result := runInstr [0xD6, zp] s

/-- DEC abx, opcode DE (rule R309): sequence `ABX_M`, `do_op`; 7 cycles. -/
def execDecAbx (addr : Addr) (s : State) : Result := runInstr [0xDE, lo addr, hi addr] s

/-- INC zp, opcode E6 (rule R308): sequence `ZP_M`, `do_op`; 5 cycles. -/
def execIncZp (zp : Byte) (s : State) : Result := runInstr [0xE6, zp] s

/-- INX imp, opcode E8 (rule R310): sequence `IMP`, `do_op`; 2 cycles. -/
def execInx (s : State) : Result := runInstr [0xE8] s

/-- INC abs, opcode EE (rule R308): sequence `ABS_M`, `do_op`; 6 cycles. -/
def execIncAbs (addr : Addr) (s : State) : Result := runInstr [0xEE, lo addr, hi addr] s

/-- INC zpx, opcode F6 (rule R308): sequence `ZPX_M`, `do_op`; 6 cycles. -/
def execIncZpx (zp : Byte) (s : State) : Result := runInstr [0xF6, zp] s

/-- INC abx, opcode FE (rule R308): sequence `ABX_M`, `do_op`; 7 cycles. -/
def execIncAbx (addr : Addr) (s : State) : Result := runInstr [0xFE, lo addr, hi addr] s

end Sys2Proof.Machine
end

