-- ==== Sys2Proof/Machine/StackFlags.lean ====
section
/-! DEFINITION. Stack pushes and pulls, flag instructions, NOP (spec/45_stack_flags.md rules R350 to R361): the meaning of each
opcode, the run of its micro-op sequence (`runInstr`) on its own bytes. -/

namespace Sys2Proof.Machine

/-- PHP imp, opcode 08 (rule R351): sequence `PHP`; 3 cycles. -/
def execPhp (s : State) : Result := runInstr [0x08] s

/-- CLC imp, opcode 18 (rule R354): sequence `IMP`, `do_op`; 2 cycles. -/
def execClc (s : State) : Result := runInstr [0x18] s

/-- PLP imp, opcode 28 (rule R353): sequence `PLP`; 4 cycles. -/
def execPlp (s : State) : Result := runInstr [0x28] s

/-- SEC imp, opcode 38 (rule R355): sequence `IMP`, `do_op`; 2 cycles. -/
def execSec (s : State) : Result := runInstr [0x38] s

/-- PHA imp, opcode 48 (rule R350): sequence `PHA`; 3 cycles. -/
def execPha (s : State) : Result := runInstr [0x48] s

/-- CLI imp, opcode 58 (rule R356): sequence `CLI`; 2 cycles. -/
def execCli (s : State) : Result := runInstr [0x58] s

/-- PLA imp, opcode 68 (rule R352): sequence `PLA`, `do_op`; 4 cycles. -/
def execPla (s : State) : Result := runInstr [0x68] s

/-- SEI imp, opcode 78 (rule R357): sequence `SEI`; 2 cycles. -/
def execSei (s : State) : Result := runInstr [0x78] s

/-- CLV imp, opcode B8 (rule R360): sequence `IMP`, `do_op`; 2 cycles. -/
def execClv (s : State) : Result := runInstr [0xB8] s

/-- CLD imp, opcode D8 (rule R358): sequence `IMP`, `do_op`; 2 cycles. -/
def execCld (s : State) : Result := runInstr [0xD8] s

/-- NOP imp, opcode EA (rule R361): sequence `IMP`, `do_op`; 2 cycles. -/
def execNopImpEA (s : State) : Result := runInstr [0xEA] s

/-- SED imp, opcode F8 (rule R359): sequence `IMP`, `do_op`; 2 cycles. -/
def execSed (s : State) : Result := runInstr [0xF8] s

end Sys2Proof.Machine
end

