-- ==== Sys2Proof/Machine/Undocumented.lean ====
section
/-! DEFINITION. Undocumented opcodes and the halt opcodes (spec/46_undocumented.md rules R370 to R391): the meaning of each
opcode, the run of its micro-op sequence (`runInstr`) on its own bytes. -/

namespace Sys2Proof.Machine

/-- JAM imp, opcode 02 (rule R391): sequence `JAM`, halts on the `hlt` record; never completes: halts after 2 cycles until resume. -/
def execJam02 (s : State) : Result := runInstr [0x02] s

/-- SLO izx, opcode 03 (rule R370): sequence `IZX_M`, `do_op`; 8 cycles. -/
def execSloIzx (zp : Byte) (s : State) : Result := runInstr [0x03, zp] s

/-- NOP zp, opcode 04 (rule R390): sequence `ZP_R`, `do_op`; 3 cycles. -/
def execNopZp04 (zp : Byte) (s : State) : Result := runInstr [0x04, zp] s

/-- SLO zp, opcode 07 (rule R370): sequence `ZP_M`, `do_op`; 5 cycles. -/
def execSloZp (zp : Byte) (s : State) : Result := runInstr [0x07, zp] s

/-- ANC imm, opcode 0B (rule R378): sequence `IMM`, `do_op`; 2 cycles. -/
def execAncImm0B (v : Byte) (s : State) : Result := runInstr [0x0B, v] s

/-- NOP abs, opcode 0C (rule R390): sequence `ABS_R`, `do_op`; 4 cycles. -/
def execNopAbs (addr : Addr) (s : State) : Result := runInstr [0x0C, lo addr, hi addr] s

/-- SLO abs, opcode 0F (rule R370): sequence `ABS_M`, `do_op`; 6 cycles. -/
def execSloAbs (addr : Addr) (s : State) : Result := runInstr [0x0F, lo addr, hi addr] s

/-- JAM imp, opcode 12 (rule R391): sequence `JAM`, halts on the `hlt` record; never completes: halts after 2 cycles until resume. -/
def execJam12 (s : State) : Result := runInstr [0x12] s

/-- SLO izy, opcode 13 (rule R370): sequence `IZY_M`, `do_op`; 8 cycles. -/
def execSloIzy (zp : Byte) (s : State) : Result := runInstr [0x13, zp] s

/-- NOP zpx, opcode 14 (rule R390): sequence `ZPX_R`, `do_op`; 4 cycles. -/
def execNopZpx14 (zp : Byte) (s : State) : Result := runInstr [0x14, zp] s

/-- SLO zpx, opcode 17 (rule R370): sequence `ZPX_M`, `do_op`; 6 cycles. -/
def execSloZpx (zp : Byte) (s : State) : Result := runInstr [0x17, zp] s

/-- NOP imp, opcode 1A (rule R390): sequence `IMP`, `do_op`; 2 cycles. -/
def execNopImp1A (s : State) : Result := runInstr [0x1A] s

/-- SLO aby, opcode 1B (rule R370): sequence `ABY_M`, `do_op`; 7 cycles. -/
def execSloAby (addr : Addr) (s : State) : Result := runInstr [0x1B, lo addr, hi addr] s

/-- NOP abx, opcode 1C (rule R390): sequence `ABX_R`, `do_op`; 4 cycles, +1 if the index addition carries into the high byte. -/
def execNopAbx1C (addr : Addr) (s : State) : Result := runInstr [0x1C, lo addr, hi addr] s

/-- SLO abx, opcode 1F (rule R370): sequence `ABX_M`, `do_op`; 7 cycles. -/
def execSloAbx (addr : Addr) (s : State) : Result := runInstr [0x1F, lo addr, hi addr] s

/-- JAM imp, opcode 22 (rule R391): sequence `JAM`, halts on the `hlt` record; never completes: halts after 2 cycles until resume. -/
def execJam22 (s : State) : Result := runInstr [0x22] s

/-- RLA izx, opcode 23 (rule R371): sequence `IZX_M`, `do_op`; 8 cycles. -/
def execRlaIzx (zp : Byte) (s : State) : Result := runInstr [0x23, zp] s

/-- RLA zp, opcode 27 (rule R371): sequence `ZP_M`, `do_op`; 5 cycles. -/
def execRlaZp (zp : Byte) (s : State) : Result := runInstr [0x27, zp] s

/-- ANC imm, opcode 2B (rule R378): sequence `IMM`, `do_op`; 2 cycles. -/
def execAncImm2B (v : Byte) (s : State) : Result := runInstr [0x2B, v] s

/-- RLA abs, opcode 2F (rule R371): sequence `ABS_M`, `do_op`; 6 cycles. -/
def execRlaAbs (addr : Addr) (s : State) : Result := runInstr [0x2F, lo addr, hi addr] s

/-- JAM imp, opcode 32 (rule R391): sequence `JAM`, halts on the `hlt` record; never completes: halts after 2 cycles until resume. -/
def execJam32 (s : State) : Result := runInstr [0x32] s

/-- RLA izy, opcode 33 (rule R371): sequence `IZY_M`, `do_op`; 8 cycles. -/
def execRlaIzy (zp : Byte) (s : State) : Result := runInstr [0x33, zp] s

/-- NOP zpx, opcode 34 (rule R390): sequence `ZPX_R`, `do_op`; 4 cycles. -/
def execNopZpx34 (zp : Byte) (s : State) : Result := runInstr [0x34, zp] s

/-- RLA zpx, opcode 37 (rule R371): sequence `ZPX_M`, `do_op`; 6 cycles. -/
def execRlaZpx (zp : Byte) (s : State) : Result := runInstr [0x37, zp] s

/-- NOP imp, opcode 3A (rule R390): sequence `IMP`, `do_op`; 2 cycles. -/
def execNopImp3A (s : State) : Result := runInstr [0x3A] s

/-- RLA aby, opcode 3B (rule R371): sequence `ABY_M`, `do_op`; 7 cycles. -/
def execRlaAby (addr : Addr) (s : State) : Result := runInstr [0x3B, lo addr, hi addr] s

/-- NOP abx, opcode 3C (rule R390): sequence `ABX_R`, `do_op`; 4 cycles, +1 if the index addition carries into the high byte. -/
def execNopAbx3C (addr : Addr) (s : State) : Result := runInstr [0x3C, lo addr, hi addr] s

/-- RLA abx, opcode 3F (rule R371): sequence `ABX_M`, `do_op`; 7 cycles. -/
def execRlaAbx (addr : Addr) (s : State) : Result := runInstr [0x3F, lo addr, hi addr] s

/-- JAM imp, opcode 42 (rule R391): sequence `JAM`, halts on the `hlt` record; never completes: halts after 2 cycles until resume. -/
def execJam42 (s : State) : Result := runInstr [0x42] s

/-- SRE izx, opcode 43 (rule R372): sequence `IZX_M`, `do_op`; 8 cycles. -/
def execSreIzx (zp : Byte) (s : State) : Result := runInstr [0x43, zp] s

/-- NOP zp, opcode 44 (rule R390): sequence `ZP_R`, `do_op`; 3 cycles. -/
def execNopZp44 (zp : Byte) (s : State) : Result := runInstr [0x44, zp] s

/-- SRE zp, opcode 47 (rule R372): sequence `ZP_M`, `do_op`; 5 cycles. -/
def execSreZp (zp : Byte) (s : State) : Result := runInstr [0x47, zp] s

/-- ALR imm, opcode 4B (rule R379): sequence `IMM`, `do_op`; 2 cycles. -/
def execAlrImm (v : Byte) (s : State) : Result := runInstr [0x4B, v] s

/-- SRE abs, opcode 4F (rule R372): sequence `ABS_M`, `do_op`; 6 cycles. -/
def execSreAbs (addr : Addr) (s : State) : Result := runInstr [0x4F, lo addr, hi addr] s

/-- JAM imp, opcode 52 (rule R391): sequence `JAM`, halts on the `hlt` record; never completes: halts after 2 cycles until resume. -/
def execJam52 (s : State) : Result := runInstr [0x52] s

/-- SRE izy, opcode 53 (rule R372): sequence `IZY_M`, `do_op`; 8 cycles. -/
def execSreIzy (zp : Byte) (s : State) : Result := runInstr [0x53, zp] s

/-- NOP zpx, opcode 54 (rule R390): sequence `ZPX_R`, `do_op`; 4 cycles. -/
def execNopZpx54 (zp : Byte) (s : State) : Result := runInstr [0x54, zp] s

/-- SRE zpx, opcode 57 (rule R372): sequence `ZPX_M`, `do_op`; 6 cycles. -/
def execSreZpx (zp : Byte) (s : State) : Result := runInstr [0x57, zp] s

/-- NOP imp, opcode 5A (rule R390): sequence `IMP`, `do_op`; 2 cycles. -/
def execNopImp5A (s : State) : Result := runInstr [0x5A] s

/-- SRE aby, opcode 5B (rule R372): sequence `ABY_M`, `do_op`; 7 cycles. -/
def execSreAby (addr : Addr) (s : State) : Result := runInstr [0x5B, lo addr, hi addr] s

/-- NOP abx, opcode 5C (rule R390): sequence `ABX_R`, `do_op`; 4 cycles, +1 if the index addition carries into the high byte. -/
def execNopAbx5C (addr : Addr) (s : State) : Result := runInstr [0x5C, lo addr, hi addr] s

/-- SRE abx, opcode 5F (rule R372): sequence `ABX_M`, `do_op`; 7 cycles. -/
def execSreAbx (addr : Addr) (s : State) : Result := runInstr [0x5F, lo addr, hi addr] s

/-- JAM imp, opcode 62 (rule R391): sequence `JAM`, halts on the `hlt` record; never completes: halts after 2 cycles until resume. -/
def execJam62 (s : State) : Result := runInstr [0x62] s

/-- RRA izx, opcode 63 (rule R373): sequence `IZX_M`, `do_op`; 8 cycles. -/
def execRraIzx (zp : Byte) (s : State) : Result := runInstr [0x63, zp] s

/-- NOP zp, opcode 64 (rule R390): sequence `ZP_R`, `do_op`; 3 cycles. -/
def execNopZp64 (zp : Byte) (s : State) : Result := runInstr [0x64, zp] s

/-- RRA zp, opcode 67 (rule R373): sequence `ZP_M`, `do_op`; 5 cycles. -/
def execRraZp (zp : Byte) (s : State) : Result := runInstr [0x67, zp] s

/-- ARR imm, opcode 6B (rule R380): sequence `IMM`, `do_op`; 2 cycles. -/
def execArrImm (v : Byte) (s : State) : Result := runInstr [0x6B, v] s

/-- RRA abs, opcode 6F (rule R373): sequence `ABS_M`, `do_op`; 6 cycles. -/
def execRraAbs (addr : Addr) (s : State) : Result := runInstr [0x6F, lo addr, hi addr] s

/-- JAM imp, opcode 72 (rule R391): sequence `JAM`, halts on the `hlt` record; never completes: halts after 2 cycles until resume. -/
def execJam72 (s : State) : Result := runInstr [0x72] s

/-- RRA izy, opcode 73 (rule R373): sequence `IZY_M`, `do_op`; 8 cycles. -/
def execRraIzy (zp : Byte) (s : State) : Result := runInstr [0x73, zp] s

/-- NOP zpx, opcode 74 (rule R390): sequence `ZPX_R`, `do_op`; 4 cycles. -/
def execNopZpx74 (zp : Byte) (s : State) : Result := runInstr [0x74, zp] s

/-- RRA zpx, opcode 77 (rule R373): sequence `ZPX_M`, `do_op`; 6 cycles. -/
def execRraZpx (zp : Byte) (s : State) : Result := runInstr [0x77, zp] s

/-- NOP imp, opcode 7A (rule R390): sequence `IMP`, `do_op`; 2 cycles. -/
def execNopImp7A (s : State) : Result := runInstr [0x7A] s

/-- RRA aby, opcode 7B (rule R373): sequence `ABY_M`, `do_op`; 7 cycles. -/
def execRraAby (addr : Addr) (s : State) : Result := runInstr [0x7B, lo addr, hi addr] s

/-- NOP abx, opcode 7C (rule R390): sequence `ABX_R`, `do_op`; 4 cycles, +1 if the index addition carries into the high byte. -/
def execNopAbx7C (addr : Addr) (s : State) : Result := runInstr [0x7C, lo addr, hi addr] s

/-- RRA abx, opcode 7F (rule R373): sequence `ABX_M`, `do_op`; 7 cycles. -/
def execRraAbx (addr : Addr) (s : State) : Result := runInstr [0x7F, lo addr, hi addr] s

/-- NOP imm, opcode 80 (rule R390): sequence `IMM`, `do_op`; 2 cycles. -/
def execNopImm80 (v : Byte) (s : State) : Result := runInstr [0x80, v] s

/-- NOP imm, opcode 82 (rule R390): sequence `IMM`, `do_op`; 2 cycles. -/
def execNopImm82 (v : Byte) (s : State) : Result := runInstr [0x82, v] s

/-- SAX izx, opcode 83 (rule R374): sequence `IZX_W`, `st_reg`; 6 cycles. -/
def execSaxIzx (zp : Byte) (s : State) : Result := runInstr [0x83, zp] s

/-- SAX zp, opcode 87 (rule R374): sequence `ZP_W`, `st_reg`; 3 cycles. -/
def execSaxZp (zp : Byte) (s : State) : Result := runInstr [0x87, zp] s

/-- NOP imm, opcode 89 (rule R390): sequence `IMM`, `do_op`; 2 cycles. -/
def execNopImm89 (v : Byte) (s : State) : Result := runInstr [0x89, v] s

/-- ANE imm, opcode 8B (rule R381): sequence `IMM`, `do_op`; 2 cycles. -/
def execAneImm (v : Byte) (s : State) : Result := runInstr [0x8B, v] s

/-- SAX abs, opcode 8F (rule R374): sequence `ABS_W`, `st_reg`; 4 cycles. -/
def execSaxAbs (addr : Addr) (s : State) : Result := runInstr [0x8F, lo addr, hi addr] s

/-- JAM imp, opcode 92 (rule R391): sequence `JAM`, halts on the `hlt` record; never completes: halts after 2 cycles until resume. -/
def execJam92 (s : State) : Result := runInstr [0x92] s

/-- SHA izy, opcode 93 (rule R387): sequence `IZY_SH`, `st_sh`; 6 cycles. -/
def execShaIzy (zp : Byte) (s : State) : Result := runInstr [0x93, zp] s

/-- SAX zpy, opcode 97 (rule R374): sequence `ZPY_W`, `st_reg`; 4 cycles. -/
def execSaxZpy (zp : Byte) (s : State) : Result := runInstr [0x97, zp] s

/-- TAS aby, opcode 9B (rule R386): sequence `ABY_SH`, `st_sh`; 5 cycles. -/
def execTasAby (addr : Addr) (s : State) : Result := runInstr [0x9B, lo addr, hi addr] s

/-- SHY abx, opcode 9C (rule R389): sequence `ABX_SH`, `st_sh`; 5 cycles. -/
def execShyAbx (addr : Addr) (s : State) : Result := runInstr [0x9C, lo addr, hi addr] s

/-- SHX aby, opcode 9E (rule R388): sequence `ABY_SH`, `st_sh`; 5 cycles. -/
def execShxAby (addr : Addr) (s : State) : Result := runInstr [0x9E, lo addr, hi addr] s

/-- SHA aby, opcode 9F (rule R387): sequence `ABY_SH`, `st_sh`; 5 cycles. -/
def execShaAby (addr : Addr) (s : State) : Result := runInstr [0x9F, lo addr, hi addr] s

/-- LAX izx, opcode A3 (rule R375): sequence `IZX_R`, `do_op`; 6 cycles. -/
def execLaxIzx (zp : Byte) (s : State) : Result := runInstr [0xA3, zp] s

/-- LAX zp, opcode A7 (rule R375): sequence `ZP_R`, `do_op`; 3 cycles. -/
def execLaxZp (zp : Byte) (s : State) : Result := runInstr [0xA7, zp] s

/-- LXA imm, opcode AB (rule R382): sequence `IMM`, `do_op`; 2 cycles. -/
def execLxaImm (v : Byte) (s : State) : Result := runInstr [0xAB, v] s

/-- LAX abs, opcode AF (rule R375): sequence `ABS_R`, `do_op`; 4 cycles. -/
def execLaxAbs (addr : Addr) (s : State) : Result := runInstr [0xAF, lo addr, hi addr] s

/-- JAM imp, opcode B2 (rule R391): sequence `JAM`, halts on the `hlt` record; never completes: halts after 2 cycles until resume. -/
def execJamB2 (s : State) : Result := runInstr [0xB2] s

/-- LAX izy, opcode B3 (rule R375): sequence `IZY_R`, `do_op`; 5 cycles, +1 if the index addition carries into the high byte. -/
def execLaxIzy (zp : Byte) (s : State) : Result := runInstr [0xB3, zp] s

/-- LAX zpy, opcode B7 (rule R375): sequence `ZPY_R`, `do_op`; 4 cycles. -/
def execLaxZpy (zp : Byte) (s : State) : Result := runInstr [0xB7, zp] s

/-- LAS aby, opcode BB (rule R385): sequence `ABY_R`, `do_op`; 4 cycles, +1 if the index addition carries into the high byte. -/
def execLasAby (addr : Addr) (s : State) : Result := runInstr [0xBB, lo addr, hi addr] s

/-- LAX aby, opcode BF (rule R375): sequence `ABY_R`, `do_op`; 4 cycles, +1 if the index addition carries into the high byte. -/
def execLaxAby (addr : Addr) (s : State) : Result := runInstr [0xBF, lo addr, hi addr] s

/-- NOP imm, opcode C2 (rule R390): sequence `IMM`, `do_op`; 2 cycles. -/
def execNopImmC2 (v : Byte) (s : State) : Result := runInstr [0xC2, v] s

/-- DCP izx, opcode C3 (rule R376): sequence `IZX_M`, `do_op`; 8 cycles. -/
def execDcpIzx (zp : Byte) (s : State) : Result := runInstr [0xC3, zp] s

/-- DCP zp, opcode C7 (rule R376): sequence `ZP_M`, `do_op`; 5 cycles. -/
def execDcpZp (zp : Byte) (s : State) : Result := runInstr [0xC7, zp] s

/-- SBX imm, opcode CB (rule R383): sequence `IMM`, `do_op`; 2 cycles. -/
def execSbxImm (v : Byte) (s : State) : Result := runInstr [0xCB, v] s

/-- DCP abs, opcode CF (rule R376): sequence `ABS_M`, `do_op`; 6 cycles. -/
def execDcpAbs (addr : Addr) (s : State) : Result := runInstr [0xCF, lo addr, hi addr] s

/-- JAM imp, opcode D2 (rule R391): sequence `JAM`, halts on the `hlt` record; never completes: halts after 2 cycles until resume. -/
def execJamD2 (s : State) : Result := runInstr [0xD2] s

/-- DCP izy, opcode D3 (rule R376): sequence `IZY_M`, `do_op`; 8 cycles. -/
def execDcpIzy (zp : Byte) (s : State) : Result := runInstr [0xD3, zp] s

/-- NOP zpx, opcode D4 (rule R390): sequence `ZPX_R`, `do_op`; 4 cycles. -/
def execNopZpxD4 (zp : Byte) (s : State) : Result := runInstr [0xD4, zp] s

/-- DCP zpx, opcode D7 (rule R376): sequence `ZPX_M`, `do_op`; 6 cycles. -/
def execDcpZpx (zp : Byte) (s : State) : Result := runInstr [0xD7, zp] s

/-- NOP imp, opcode DA (rule R390): sequence `IMP`, `do_op`; 2 cycles. -/
def execNopImpDA (s : State) : Result := runInstr [0xDA] s

/-- DCP aby, opcode DB (rule R376): sequence `ABY_M`, `do_op`; 7 cycles. -/
def execDcpAby (addr : Addr) (s : State) : Result := runInstr [0xDB, lo addr, hi addr] s

/-- NOP abx, opcode DC (rule R390): sequence `ABX_R`, `do_op`; 4 cycles, +1 if the index addition carries into the high byte. -/
def execNopAbxDC (addr : Addr) (s : State) : Result := runInstr [0xDC, lo addr, hi addr] s

/-- DCP abx, opcode DF (rule R376): sequence `ABX_M`, `do_op`; 7 cycles. -/
def execDcpAbx (addr : Addr) (s : State) : Result := runInstr [0xDF, lo addr, hi addr] s

/-- NOP imm, opcode E2 (rule R390): sequence `IMM`, `do_op`; 2 cycles. -/
def execNopImmE2 (v : Byte) (s : State) : Result := runInstr [0xE2, v] s

/-- ISC izx, opcode E3 (rule R377): sequence `IZX_M`, `do_op`; 8 cycles. -/
def execIscIzx (zp : Byte) (s : State) : Result := runInstr [0xE3, zp] s

/-- ISC zp, opcode E7 (rule R377): sequence `ZP_M`, `do_op`; 5 cycles. -/
def execIscZp (zp : Byte) (s : State) : Result := runInstr [0xE7, zp] s

/-- USBC imm, opcode EB (rule R384): sequence `IMM`, `do_op`; 2 cycles. -/
def execUsbcImm (v : Byte) (s : State) : Result := runInstr [0xEB, v] s

/-- ISC abs, opcode EF (rule R377): sequence `ABS_M`, `do_op`; 6 cycles. -/
def execIscAbs (addr : Addr) (s : State) : Result := runInstr [0xEF, lo addr, hi addr] s

/-- JAM imp, opcode F2 (rule R391): sequence `JAM`, halts on the `hlt` record; never completes: halts after 2 cycles until resume. -/
def execJamF2 (s : State) : Result := runInstr [0xF2] s

/-- ISC izy, opcode F3 (rule R377): sequence `IZY_M`, `do_op`; 8 cycles. -/
def execIscIzy (zp : Byte) (s : State) : Result := runInstr [0xF3, zp] s

/-- NOP zpx, opcode F4 (rule R390): sequence `ZPX_R`, `do_op`; 4 cycles. -/
def execNopZpxF4 (zp : Byte) (s : State) : Result := runInstr [0xF4, zp] s

/-- ISC zpx, opcode F7 (rule R377): sequence `ZPX_M`, `do_op`; 6 cycles. -/
def execIscZpx (zp : Byte) (s : State) : Result := runInstr [0xF7, zp] s

/-- NOP imp, opcode FA (rule R390): sequence `IMP`, `do_op`; 2 cycles. -/
def execNopImpFA (s : State) : Result := runInstr [0xFA] s

/-- ISC aby, opcode FB (rule R377): sequence `ABY_M`, `do_op`; 7 cycles. -/
def execIscAby (addr : Addr) (s : State) : Result := runInstr [0xFB, lo addr, hi addr] s

/-- NOP abx, opcode FC (rule R390): sequence `ABX_R`, `do_op`; 4 cycles, +1 if the index addition carries into the high byte. -/
def execNopAbxFC (addr : Addr) (s : State) : Result := runInstr [0xFC, lo addr, hi addr] s

/-- ISC abx, opcode FF (rule R377): sequence `ABX_M`, `do_op`; 7 cycles. -/
def execIscAbx (addr : Addr) (s : State) : Result := runInstr [0xFF, lo addr, hi addr] s

end Sys2Proof.Machine
end

