-- ==== Sys2Proof/Machine/Fetch.lean ====
section
/-! DEFINITION. Fetching an instruction, and placing one where it is fetched. The engine has no fetch stage: the
opcode and operand bytes are ordinary reads in the cycles that need them (spec/20_memory.md rule R82). The
instruction at a boundary is the one those reads deliver. -/

namespace Sys2Proof.Machine

/-- The byte of a bus event, if it is a read of the instruction stream. -/
def streamByte : BusEvent → Option Byte
  | .withheld => none
  | .access _ _ b _ stream => if stream then some b else none

/-- The instruction-stream bytes that the cycles from `s` to the next boundary read, in order. -/
def streamBytes (s : State) : List Byte := (runSequence [] s).trace.filterMap streamByte

/-- The instruction those bytes are. A byte that is not read before the run ends (a host operation cut it
short) has no effect in the run and is taken as 0. -/
def fetch (s : State) : Instr :=
  let bs := streamBytes s
  decodeForm (bs.getD 0 0) (bs.getD 1 0) (bs.getD 2 0)

/-- The three bytes from `PC` are read from RAM: not from the port, a ROM, a device or nothing. -/
def fetchesFromRam (s : State) : Bool :=
  [s.cpu.pc, s.cpu.pc + 1, s.cpu.pc + 2].all
    (fun a => !isPort a && decide (regionOf s.cfg .read a = .ram))

/-- An address whose block is RAM in every configuration (spec/20_memory.md rule R96). -/
def plainCodeAddress : Addr := 0x0400

/-- `s` about to fetch the instruction whose three bytes are given: the cursor on a dispatch record, no interrupt
request pending and no input queued, and the bytes in RAM at `PC`, which moves only when `PC` is not in RAM. -/
def placeBytes (bs : List Byte) (s : State) : State :=
  let pc := if fetchesFromRam s then s.cpu.pc else plainCodeAddress
  let ram := ((s.ram.write pc (bs.getD 0 0)).write (pc + 1) (bs.getD 1 0)).write (pc + 2) (bs.getD 2 0)
  { s with cpu := { s.cpu with pc := pc, nmiT := .idle, irqT := .idle,
                               mcp := if isBoundary s.cpu.mcp then s.cpu.mcp else 1 },
           ram := ram, inputs := [] }

end Sys2Proof.Machine
end

