-- ==== Sys2Proof/Machine/Step.lean ====
section
/-! DEFINITION. One step of the machine: at a boundary, the instruction fetched there; at the reset sequence, the reset
pseudo-instruction; elsewhere (a restored snapshot, the halt slot), the rest of the sequence in progress
(spec/40_engine.md rules R230, R231). Each is a run of system cycles (rule R172). -/

namespace Sys2Proof.Machine

/-- One step. -/
def step (s : State) : Host.Outcome State Fault Refusal :=
  if isBoundary s.cpu.mcp then exec (fetch s) s
  else if s.cpu.mcp = resetStart then exec .reset s
  else .next (runSequence [] s)

/-- `s` with an instruction of `nbits` bits `w` stored where the next step fetches it. -/
def State.withFetchWord (s : State) (nbits w : Nat) : State := placeBytes (wordBytes nbits w) s

end Sys2Proof.Machine
end

