-- ==== Sys2Proof/Safety.lean ====
section
/-! DEFINITION. What counts as a safe state and a safe run, in the terms the statements use: the invariants of the block
(spec/10_state.md rules R26, R27, R31, R47, R50), a boundary at which no interrupt is taken (spec/40_engine.md rule
R230), and the result of a run of quiet cycles: the registers, the memory and one bus transfer for each cycle
(rules R171, R231). Nothing here can fault: the block raises no exception (spec/60_exceptions.md rule R410). -/

namespace Sys2Proof.Machine

/-- The invariants of one engine: `SPH = 0x01` (rule R26), `ZPAH = 0x00` (rule R27), `P.U = P.B = 1` (rule R31). -/
structure Cpu.Inv (c : Cpu) : Prop where
  stackPage : hi c.sp = 0x01
  zeroPage : hi c.zpa = 0x00
  unusedSet : flag c.p .u = true
  breakSet : flag c.p .b = true

/-- The invariants of the block: those of both engines, `CFG` equal to its function (rule R47), both byte stores in
canonical form (so that equal contents are equal data). -/
structure State.Inv (s : State) : Prop where
  primary : s.cpu.Inv
  secondary : s.drive.cpu.Inv
  configuration : s.cfg = cfgOf s.ddr s.pdata s.exrom s.game
  ramForm : s.ram.wf = true
  driveRamForm : s.drive.ram.wf = true

/-- The memory side of two states is the same: `RAM`, the port, the cartridge lines, the configuration. -/
structure SameMemory (t u : State) : Prop where
  ram : t.ram = u.ram
  ddr : t.ddr = u.ddr
  pdata : t.pdata = u.pdata
  exrom : t.exrom = u.exrom
  game : t.game = u.game
  cfg : t.cfg = u.cfg

/-- Whether the dispatch record at the cursor polls the interrupt sources (rules R201 to R205). -/
def polls (m : Cursor) : Bool := decide ((romAt m).tag ≠ .dispatchBrk) || Config.brkTailPolls

/-- The hardware sources that the coming opcode fetch finds (rule R201). -/
def foundSources (c : Cpu) : BitVec 3 := if polls c.mcp then pollSources c else 0

/-- A boundary at which no hardware source is found, in a quiet environment: nothing is queued, so every cycle has
`quietInput`. -/
structure State.Ready (s : State) : Prop where
  boundary : isBoundary s.cpu.mcp = true
  quiet : s.inputs = []
  calm : foundSources s.cpu = 0

/-- `P` after the boundary's own flag write: that of CLI, SEI or PLP when it ended here (rules R202 to R204, R231). -/
def entryP (c : Cpu) : Byte :=
  match (romAt c.mcp).tag with
  | .dispatchCli => setFlag c.p .i false
  | .dispatchSei => setFlag c.p .i true
  | .dispatchPlp => forceUB c.d
  | _ => c.p

/-- The engine after the quiet cycle that fetches opcode `op` at a boundary where no hardware source is found. -/
def entered (op : Byte) (c : Cpu) : Cpu :=
  { c with pc := c.pc + 1, ir := op, p := entryP c, brkSrcs := if op = 0x00 then srcSw else 0, mcp := opcStart op,
           nmiT := c.nmiT.advance, irqT := .idle, nmiLine := false }

/-- The engine after the quiet cycle that fetches an opcode at a boundary where the hardware sources `srcs` are found:
the fetch is undone and the break opcode forced (rule R201). -/
def interrupted (srcs : BitVec 3) (c : Cpu) : Cpu :=
  { c with ir := 0x00, p := entryP c, brkSrcs := srcs, mcp := opcStart 0x00, nmiT := c.nmiT.advance, irqT := .idle,
           nmiLine := false }

/-- What `Access` answers a read at `a` in the cycle number `k` (from 0) of a quiet run that starts at `s`, with the
memory of `s` (spec/20_memory.md rule R71). -/
def State.readAt (s : State) (k : Nat) (a : Addr) : Byte := busRead s (quietInput (s.clock + k)) a

/-- The `izx` pointer's contents as the quiet run reads them, in its cycles 4 and 5 (rule R218): the address operand of
`($nn,X)`. Both bytes come from page 0. -/
def pointerX (s : State) (zp : Byte) : Addr :=
  pair (s.readAt 4 (eaZpIndexed (zp + 1) s.cpu.x)) (s.readAt 3 (eaZpIndexed zp s.cpu.x))

/-- The `izy` pointer's contents as the quiet run reads them, in its cycles 3 and 4 (rules R219, R220): the base of
`($nn),Y`. -/
def pointerY (s : State) (zp : Byte) : Addr := pair (s.readAt 3 (eaZp (zp + 1))) (s.readAt 2 (eaZp zp))

/-- One transfer on the bus: address, direction, byte (rule R171). -/
abbrev Transfer := Addr × Dir × Byte

/-- The transfer of a bus event; none when the bus was withheld. -/
def BusEvent.transfer : BusEvent → Option Transfer
  | .withheld => none
  | .access a d b _ _ => some (a, d, b)

/-- `t` is reached from `s` by quiet cycles, one for each transfer of `bus`, in order, and holds the engine `c` and the
memory side of `m`. -/
structure Ends (s t : State) (c : Cpu) (m : State) (bus : List Transfer) : Prop where
  cpu : t.cpu = c
  memory : SameMemory t m
  transfers : t.trace.map BusEvent.transfer = bus.map some
  clock : t.clock = s.clock + bus.length
  inputs : t.inputs = []
  ratio : t.secCnt.val = (s.secCnt.val + bus.length) % Config.secDen

/-- No byte of RAM differs but those at the addresses `as`. -/
def OnlyRamAt (as : List Addr) (s t : State) : Prop := ∀ b, b ∉ as → t.ram.read b = s.ram.read b

/-- An instruction, its opcode, and what its operation does to the engine. -/
abbrev Row := Instr × Byte × (Cpu → Cpu)

/-- A store instruction, its opcode, and the byte it stores, as a function of the engine. -/
abbrev StoreRow := Instr × Byte × (Cpu → Byte)

/-- A conditional branch, its opcode, and the condition on `P` under which it is taken. -/
abbrev BranchRow := Instr × Byte × (Byte → Bool)

/-- `P` becomes `q` with `N` and `Z` taken from the byte `v` and nothing else changed (spec/42_alu.md rule R280). -/
structure TakesNZ (p q v : Byte) : Prop where
  negative : flag q .n = v.getLsbD 7
  zero : flag q .z = decide (v = 0)
  others : ∀ f, f ≠ .n → f ≠ .z → flag q f = flag p f

/-- The flags other than those listed are the same. -/
def OnlyFlags (fs : List Flag) (p q : Byte) : Prop := ∀ f, f ∉ fs → flag q f = flag p f

/-- Both nibbles are decimal digits. -/
def isBcd (b : Byte) : Bool := decide (b.toNat / 16 ≤ 9) && decide (b.toNat % 16 ≤ 9)

/-- The number that two decimal digits are. -/
def bcdValue (b : Byte) : Nat := b.toNat / 16 * 10 + b.toNat % 16

/-- The engine before the level setters of the coming cycle: ticked, or as it is when the bus is withheld (spec/40_engine.md
rules R172, R174). -/
def State.ticked (s : State) (feed : List Byte) : Cpu :=
  if (nextInput s).bw then s.cpu else (cpuCycle feed (nextInput s) s).cpu

/-- The stack address `n` below the stack pointer, inside page 1 (spec/10_state.md rule R26). -/
def stackBelow (c : Cpu) (n : Byte) : Addr := setLo c.sp (c.s - n)

/-- The stack address `n` above the stack pointer, inside page 1 (rule R26). -/
def stackAbove (c : Cpu) (n : Byte) : Addr := setLo c.sp (c.s + n)

end Sys2Proof.Machine
end

