-- ==== Sys2Proof/Certificates/Slice0/Obligations.lean ====
section
/-! DEFINITION. The statements for the provers. Those about an instruction speak of `State.Ready` (a boundary where no
interrupt is taken, nothing queued) and of `Ends` (Sys2Proof/Safety.lean): the engine, the memory side and one bus
transfer for each cycle of the run. A statement that stores nothing says so by `SameMemory` inside `Ends`: every byte of
RAM, the port, the cartridge lines and the configuration are as before. -/

open Sys2Proof Sys2Proof.Machine

/-- Words written out from the opcode matrix (rule R134) decode as they should. -/
def Obligations.WrittenWordsDecode : Prop :=
  decode [0xA9, 0x80] = .ok (.ldaImm 0x80, []) ∧
  decode [0x8D, 0x34, 0x12] = .ok (.staAbs 0x1234, []) ∧
  decode [0x71, 0x20, 0xFF] = .ok (.adcIzy 0x20, [0xFF]) ∧
  decode [0x0A] = .ok (.aslAcc, []) ∧
  decode [0xD0, 0xFE] = .ok (.bneRel 0xFE, []) ∧
  decode [0x6C, 0xFF, 0x20] = .ok (.jmpInd 0x20FF, []) ∧
  decode [0x48] = .ok (.pha, []) ∧
  decode [0x9E, 0xF0, 0x12] = .ok (.shxAby 0x12F0, []) ∧
  decode [0xF2] = .ok (.jamF2, [])

/-- Decode and encode agree, for every instruction (rules R130 to R134). -/
def Obligations.DecodeEncode : Prop :=
  ∀ (i : Instr) (rest : List Byte), i.wellFormed = true → decode (encode i ++ rest) = .ok (i, rest)

/-- Every byte value is an opcode and every operand value is legal for it (rule R137). -/
def Obligations.EveryByteIsAnOpcode : Prop :=
  ∀ (op b1 b2 : Byte) (rest : List Byte), ∃ i left,
    decode (op :: b1 :: b2 :: rest) = .ok (i, left) ∧ i.wellFormed = true ∧
    encode i ++ left = op :: b1 :: b2 :: rest ∧ ∀ s, ∃ t, exec i s = .next t

/-- A step runs the decoded instruction; nothing is added around `exec` (rules R82, R231). -/
def Obligations.StepRunsDecoded : Prop :=
  ∀ (s : State), s.Ready →
    (∀ i left, s.readAt 0 s.cpu.pc ≠ 0x20 →
      decode [s.readAt 0 s.cpu.pc, s.readAt 1 (s.cpu.pc + 1), s.readAt 2 (s.cpu.pc + 2)] = .ok (i, left) →
      step s = exec i s) ∧
    (∀ m, s.readAt 0 s.cpu.pc = 0x20 →
      m = busWrite (busWrite s s.cpu.sp (hi (s.cpu.pc + 2))) (stackBelow s.cpu 1) (lo (s.cpu.pc + 2)) →
      step s = exec (.jsrAbs (pair (m.readAt 5 (s.cpu.pc + 2)) (s.readAt 1 (s.cpu.pc + 1)))) s)

/-- The instruction-level view is no second definition (rule R231): a step is a run of system cycles. -/
def Obligations.StepIsCycles : Prop :=
  ∀ (s : State), step s = .next (runSequence [] s)

/-- The invariants of rules R26, R27, R31 and R47 are kept by every step, and with them the canonical form of both byte
stores, which is the model's choice (log entry 5) and no rule of the spec. -/
def Obligations.StepKeepsInv : Prop :=
  ∀ (s t : State), s.Inv → step s = .next t → t.Inv

/-- The state after reset (rules R55, R473): the invariants that every step keeps, among them the canonical form of both byte
stores, which is the model's choice (log entry 5), and the values of rule R55. -/
def Obligations.ResetState : Prop :=
  (State.reset.Inv) ∧
  (State.reset.cpu.zpa = 0x0000 ∧ hi State.reset.cpu.sp = 0x01 ∧
  flag State.reset.cpu.p .i = true ∧ flag State.reset.cpu.p .u = true ∧ flag State.reset.cpu.p .b = true ∧
  State.reset.cpu.mcp = 208 ∧ State.reset.cpu.nmiT = .idle ∧ State.reset.cpu.irqT = .idle ∧
  State.reset.cpu.nmiLine = false ∧ State.reset.cpu.brkSrcs = 0 ∧
  State.reset.ddr = 0x00 ∧ State.reset.pdata = 0x00 ∧ State.reset.exrom = true ∧ State.reset.game = true ∧
  State.reset.cfg = 13 ∧ State.reset.secCnt = 0)

/-- The instructions of sequence `IMP` (rule R210): each completes with its own operation, and changes nothing else. -/
def Obligations.ImpliedResult : Prop :=
  ∀ (s : State), s.Ready → ∀ i op f, (i, op, f) ∈
      ([(.aslAcc, 0x0A, (shiftA asl8)), (.clc, 0x18, opClc), (.nopImp1A, 0x1A, opNop),
       (.rolAcc, 0x2A, (shiftA rol8)), (.sec, 0x38, opSec), (.nopImp3A, 0x3A, opNop),
       (.lsrAcc, 0x4A, (shiftA lsr8)), (.nopImp5A, 0x5A, opNop), (.rorAcc, 0x6A, (shiftA ror8)),
       (.nopImp7A, 0x7A, opNop), (.dey, 0x88, opDey), (.txa, 0x8A, opTxa), (.tya, 0x98, opTya),
       (.txs, 0x9A, opTxs), (.tay, 0xA8, opTay), (.tax, 0xAA, opTax), (.clv, 0xB8, opClv), (.tsx, 0xBA, opTsx),
       (.iny, 0xC8, opIny), (.dex, 0xCA, opDex), (.cld, 0xD8, opCld), (.nopImpDA, 0xDA, opNop),
       (.inx, 0xE8, opInx), (.nopImpEA, 0xEA, opNop), (.sed, 0xF8, opSed), (.nopImpFA, 0xFA, opNop)] : List Row) →
    ∃ t, exec i s = .next t ∧
      Ends s t (f { entered op s.cpu with mcp := 1, d := s.readAt 1 (s.cpu.pc + 1) }) s
        [(s.cpu.pc, .read, op),
         (s.cpu.pc + 1, .read, s.readAt 1 (s.cpu.pc + 1))]

/-- The instructions of sequence `IMM` (rule R211). -/
def Obligations.ImmediateResult : Prop :=
  ∀ (s : State) (v : Byte), s.Ready → ∀ i op f, (i, op, f) ∈
      ([(.oraImm v, 0x09, opOra), (.ancImm0B v, 0x0B, opAnc), (.andImm v, 0x29, opAnd),
       (.ancImm2B v, 0x2B, opAnc), (.eorImm v, 0x49, opEor), (.alrImm v, 0x4B, opAlr), (.adcImm v, 0x69, opAdc),
       (.arrImm v, 0x6B, opArr), (.nopImm80 v, 0x80, opNop), (.nopImm82 v, 0x82, opNop),
       (.nopImm89 v, 0x89, opNop), (.aneImm v, 0x8B, opAne), (.ldyImm v, 0xA0, opLdy), (.ldxImm v, 0xA2, opLdx),
       (.ldaImm v, 0xA9, opLda), (.lxaImm v, 0xAB, opLxa), (.cpyImm v, 0xC0, opCpy), (.nopImmC2 v, 0xC2, opNop),
       (.cmpImm v, 0xC9, opCmp), (.sbxImm v, 0xCB, opSbx), (.cpxImm v, 0xE0, opCpx), (.nopImmE2 v, 0xE2, opNop),
       (.sbcImm v, 0xE9, opSbc), (.usbcImm v, 0xEB, opSbc)] : List Row) →
    ∃ t, exec i s = .next t ∧
      Ends s t (f { entered op s.cpu with mcp := 3, d := v, pc := s.cpu.pc + 2 }) s
        [(s.cpu.pc, .read, op),
         (s.cpu.pc + 1, .read, v)]

/-- Sequences `ZP_R`, `ABS_R` (rules R212, R214). -/
def Obligations.DirectReadResult : Prop :=
  (∀ (s : State) (zp : Byte), s.Ready → s.cpu.Inv → ∀ i op f, (i, op, f) ∈
      ([(.nopZp04 zp, 0x04, opNop), (.oraZp zp, 0x05, opOra), (.bitZp zp, 0x24, opBit), (.andZp zp, 0x25, opAnd),
       (.nopZp44 zp, 0x44, opNop), (.eorZp zp, 0x45, opEor), (.nopZp64 zp, 0x64, opNop),
       (.adcZp zp, 0x65, opAdc), (.ldyZp zp, 0xA4, opLdy), (.ldaZp zp, 0xA5, opLda), (.ldxZp zp, 0xA6, opLdx),
       (.laxZp zp, 0xA7, opLax), (.cpyZp zp, 0xC4, opCpy), (.cmpZp zp, 0xC5, opCmp), (.cpxZp zp, 0xE4, opCpx),
       (.sbcZp zp, 0xE5, opSbc)] : List Row) →
    ∃ t, exec i s = .next t ∧
      Ends s t (f { entered op s.cpu with mcp := 6, zpa := eaZp zp, pc := s.cpu.pc + 2, d := s.readAt 2 (eaZp zp) }) s
        [(s.cpu.pc, .read, op),
         (s.cpu.pc + 1, .read, zp),
         (eaZp zp, .read, s.readAt 2 (eaZp zp))]) ∧
  (∀ (s : State) (addr : Addr), s.Ready → ∀ i op f, (i, op, f) ∈
      ([(.nopAbs addr, 0x0C, opNop), (.oraAbs addr, 0x0D, opOra), (.bitAbs addr, 0x2C, opBit),
       (.andAbs addr, 0x2D, opAnd), (.eorAbs addr, 0x4D, opEor), (.adcAbs addr, 0x6D, opAdc),
       (.ldyAbs addr, 0xAC, opLdy), (.ldaAbs addr, 0xAD, opLda), (.ldxAbs addr, 0xAE, opLdx),
       (.laxAbs addr, 0xAF, opLax), (.cpyAbs addr, 0xCC, opCpy), (.cmpAbs addr, 0xCD, opCmp),
       (.cpxAbs addr, 0xEC, opCpx), (.sbcAbs addr, 0xED, opSbc)] : List Row) →
    ∃ t, exec i s = .next t ∧
      Ends s t (f { entered op s.cpu with mcp := 40, a1 := addr, pc := s.cpu.pc + 3, d := s.readAt 3 addr }) s
        [(s.cpu.pc, .read, op),
         (s.cpu.pc + 1, .read, lo addr),
         (s.cpu.pc + 2, .read, hi addr),
         (addr, .read, s.readAt 3 addr)])

/-- Sequences `ZPX_R`, `ZPY_R` (rule R213); the index addition wraps inside page 0. -/
def Obligations.ZeroPageIndexedReadResult : Prop :=
  (∀ (s : State) (zp : Byte), s.Ready → s.cpu.Inv → ∀ i op f, (i, op, f) ∈
      ([(.nopZpx14 zp, 0x14, opNop), (.oraZpx zp, 0x15, opOra), (.nopZpx34 zp, 0x34, opNop),
       (.andZpx zp, 0x35, opAnd), (.nopZpx54 zp, 0x54, opNop), (.eorZpx zp, 0x55, opEor),
       (.nopZpx74 zp, 0x74, opNop), (.adcZpx zp, 0x75, opAdc), (.ldyZpx zp, 0xB4, opLdy),
       (.ldaZpx zp, 0xB5, opLda), (.nopZpxD4 zp, 0xD4, opNop), (.cmpZpx zp, 0xD5, opCmp),
       (.nopZpxF4 zp, 0xF4, opNop), (.sbcZpx zp, 0xF5, opSbc)] : List Row) →
    ∃ t, exec i s = .next t ∧
      Ends s t (f { entered op s.cpu with mcp := 18, zpa := eaZpIndexed zp s.cpu.x, pc := s.cpu.pc + 2,
                                          d := s.readAt 3 (eaZpIndexed zp s.cpu.x) }) s
        [(s.cpu.pc, .read, op),
         (s.cpu.pc + 1, .read, zp),
         (eaZp zp, .read, s.readAt 2 (eaZp zp)),
         (eaZpIndexed zp s.cpu.x, .read, s.readAt 3 (eaZpIndexed zp s.cpu.x))]) ∧
  (∀ (s : State) (zp : Byte), s.Ready → s.cpu.Inv → ∀ i op f, (i, op, f) ∈
      ([(.ldxZpy zp, 0xB6, opLdx), (.laxZpy zp, 0xB7, opLax)] : List Row) →
    ∃ t, exec i s = .next t ∧
      Ends s t (f { entered op s.cpu with mcp := 32, zpa := eaZpIndexed zp s.cpu.y, pc := s.cpu.pc + 2,
                                          d := s.readAt 3 (eaZpIndexed zp s.cpu.y) }) s
        [(s.cpu.pc, .read, op),
         (s.cpu.pc + 1, .read, zp),
         (eaZp zp, .read, s.readAt 2 (eaZp zp)),
         (eaZpIndexed zp s.cpu.y, .read, s.readAt 3 (eaZpIndexed zp s.cpu.y))])

/-- Sequences `ABX_R`, `ABY_R` (rules R215, R223). -/
def Obligations.AbsoluteIndexedReadResult : Prop :=
  (∀ (s : State) (addr : Addr), s.Ready → ∀ i op f, (i, op, f) ∈
      ([(.nopAbx1C addr, 0x1C, opNop), (.oraAbx addr, 0x1D, opOra), (.nopAbx3C addr, 0x3C, opNop),
       (.andAbx addr, 0x3D, opAnd), (.nopAbx5C addr, 0x5C, opNop), (.eorAbx addr, 0x5D, opEor),
       (.nopAbx7C addr, 0x7C, opNop), (.adcAbx addr, 0x7D, opAdc), (.ldyAbx addr, 0xBC, opLdy),
       (.ldaAbx addr, 0xBD, opLda), (.nopAbxDC addr, 0xDC, opNop), (.cmpAbx addr, 0xDD, opCmp),
       (.nopAbxFC addr, 0xFC, opNop), (.sbcAbx addr, 0xFD, opSbc)] : List Row) →
    ∃ t, exec i s = .next t ∧
      if pageCross addr s.cpu.x then
        Ends s t (f { entered op s.cpu with mcp := 55, a1 := eaUncarried addr s.cpu.x, pc := s.cpu.pc + 3,
                                            a2 := eaIndexed addr s.cpu.x, d := s.readAt 4 (eaIndexed addr s.cpu.x) }) s
        [(s.cpu.pc, .read, op),
         (s.cpu.pc + 1, .read, lo addr),
         (s.cpu.pc + 2, .read, hi addr),
         (eaUncarried addr s.cpu.x, .read, s.readAt 3 (eaUncarried addr s.cpu.x)),
         (eaIndexed addr s.cpu.x, .read, s.readAt 4 (eaIndexed addr s.cpu.x))]
      else
        Ends s t (f { entered op s.cpu with mcp := 55, a1 := eaUncarried addr s.cpu.x, pc := s.cpu.pc + 3,
                                            a2 := eaIndexed addr s.cpu.x, d := s.readAt 3 (eaIndexed addr s.cpu.x) }) s
        [(s.cpu.pc, .read, op),
         (s.cpu.pc + 1, .read, lo addr),
         (s.cpu.pc + 2, .read, hi addr),
         (eaIndexed addr s.cpu.x, .read, s.readAt 3 (eaIndexed addr s.cpu.x))]) ∧
  (∀ (s : State) (addr : Addr), s.Ready → ∀ i op f, (i, op, f) ∈
      ([(.oraAby addr, 0x19, opOra), (.andAby addr, 0x39, opAnd), (.eorAby addr, 0x59, opEor),
       (.adcAby addr, 0x79, opAdc), (.ldaAby addr, 0xB9, opLda), (.lasAby addr, 0xBB, opLas),
       (.ldxAby addr, 0xBE, opLdx), (.laxAby addr, 0xBF, opLax), (.cmpAby addr, 0xD9, opCmp),
       (.sbcAby addr, 0xF9, opSbc)] : List Row) →
    ∃ t, exec i s = .next t ∧
      if pageCross addr s.cpu.y then
        Ends s t (f { entered op s.cpu with mcp := 77, a1 := eaUncarried addr s.cpu.y, pc := s.cpu.pc + 3,
                                            a2 := eaIndexed addr s.cpu.y, d := s.readAt 4 (eaIndexed addr s.cpu.y) }) s
        [(s.cpu.pc, .read, op),
         (s.cpu.pc + 1, .read, lo addr),
         (s.cpu.pc + 2, .read, hi addr),
         (eaUncarried addr s.cpu.y, .read, s.readAt 3 (eaUncarried addr s.cpu.y)),
         (eaIndexed addr s.cpu.y, .read, s.readAt 4 (eaIndexed addr s.cpu.y))]
      else
        Ends s t (f { entered op s.cpu with mcp := 77, a1 := eaUncarried addr s.cpu.y, pc := s.cpu.pc + 3,
                                            a2 := eaIndexed addr s.cpu.y, d := s.readAt 3 (eaIndexed addr s.cpu.y) }) s
        [(s.cpu.pc, .read, op),
         (s.cpu.pc + 1, .read, lo addr),
         (s.cpu.pc + 2, .read, hi addr),
         (eaIndexed addr s.cpu.y, .read, s.readAt 3 (eaIndexed addr s.cpu.y))])

/-- The instructions of sequence `IZX_R` (rule R218). -/
def Obligations.IndexedIndirectReadResult : Prop :=
  ∀ (s : State) (zp : Byte), s.Ready → s.cpu.Inv → ∀ i op f, (i, op, f) ∈
      ([(.oraIzx zp, 0x01, opOra), (.andIzx zp, 0x21, opAnd), (.eorIzx zp, 0x41, opEor),
       (.adcIzx zp, 0x61, opAdc), (.ldaIzx zp, 0xA1, opLda), (.laxIzx zp, 0xA3, opLax),
       (.cmpIzx zp, 0xC1, opCmp), (.sbcIzx zp, 0xE1, opSbc)] : List Row) →
    ∃ t, exec i s = .next t ∧
      Ends s t (f { entered op s.cpu with mcp := 100, zpa := eaZpIndexed (zp + 1) s.cpu.x, pc := s.cpu.pc + 2,
                                          d := s.readAt 5 (pointerX s zp), a1 := pointerX s zp }) s
        [(s.cpu.pc, .read, op),
         (s.cpu.pc + 1, .read, zp),
         (eaZp zp, .read, s.readAt 2 (eaZp zp)),
         (eaZpIndexed zp s.cpu.x, .read, s.readAt 3 (eaZpIndexed zp s.cpu.x)),
         (eaZpIndexed (zp + 1) s.cpu.x, .read, s.readAt 4 (eaZpIndexed (zp + 1) s.cpu.x)),
         (pointerX s zp, .read, s.readAt 5 (pointerX s zp))]

/-- The instructions of sequence `IZY_R` (rules R219, R223). -/
def Obligations.IndirectIndexedReadResult : Prop :=
  ∀ (s : State) (zp : Byte), s.Ready → s.cpu.Inv → ∀ i op f, (i, op, f) ∈
      ([(.oraIzy zp, 0x11, opOra), (.andIzy zp, 0x31, opAnd), (.eorIzy zp, 0x51, opEor),
       (.adcIzy zp, 0x71, opAdc), (.ldaIzy zp, 0xB1, opLda), (.laxIzy zp, 0xB3, opLax),
       (.cmpIzy zp, 0xD1, opCmp), (.sbcIzy zp, 0xF1, opSbc)] : List Row) →
    ∃ t, exec i s = .next t ∧
      if pageCross (pointerY s zp) s.cpu.y then
        Ends s t (f { entered op s.cpu with mcp := 120, zpa := eaZp (zp + 1), pc := s.cpu.pc + 2,
                                            a1 := eaUncarried (pointerY s zp) s.cpu.y,
                                            a2 := eaIndexed (pointerY s zp) s.cpu.y,
                                            d := s.readAt 5 (eaIndexed (pointerY s zp) s.cpu.y) }) s
        [(s.cpu.pc, .read, op),
         (s.cpu.pc + 1, .read, zp),
         (eaZp zp, .read, s.readAt 2 (eaZp zp)),
         (eaZp (zp + 1), .read, s.readAt 3 (eaZp (zp + 1))),
         (eaUncarried (pointerY s zp) s.cpu.y, .read, s.readAt 4 (eaUncarried (pointerY s zp) s.cpu.y)),
         (eaIndexed (pointerY s zp) s.cpu.y, .read, s.readAt 5 (eaIndexed (pointerY s zp) s.cpu.y))]
      else
        Ends s t (f { entered op s.cpu with mcp := 120, zpa := eaZp (zp + 1), pc := s.cpu.pc + 2,
                                            a1 := eaUncarried (pointerY s zp) s.cpu.y,
                                            a2 := eaIndexed (pointerY s zp) s.cpu.y,
                                            d := s.readAt 4 (eaIndexed (pointerY s zp) s.cpu.y) }) s
        [(s.cpu.pc, .read, op),
         (s.cpu.pc + 1, .read, zp),
         (eaZp zp, .read, s.readAt 2 (eaZp zp)),
         (eaZp (zp + 1), .read, s.readAt 3 (eaZp (zp + 1))),
         (eaIndexed (pointerY s zp) s.cpu.y, .read, s.readAt 4 (eaIndexed (pointerY s zp) s.cpu.y))]

/-- Sequences `ZP_W`, `ABS_W` (rules R177, R212, R214). -/
def Obligations.DirectStoreResult : Prop :=
  (∀ (s : State) (zp : Byte), s.Ready → s.cpu.Inv → ∀ i op v, (i, op, v) ∈
      ([(.styZp zp, 0x84, (fun c => c.y)), (.staZp zp, 0x85, (fun c => c.a)), (.stxZp zp, 0x86, (fun c => c.x)),
       (.saxZp zp, 0x87, (fun c => c.a &&& c.x))] : List StoreRow) →
    ∃ t, exec i s = .next t ∧
      Ends s t { entered op s.cpu with mcp := 9, zpa := eaZp zp, pc := s.cpu.pc + 2,
                                       d := v s.cpu } (busWrite s (eaZp zp) (v s.cpu))
        [(s.cpu.pc, .read, op),
         (s.cpu.pc + 1, .read, zp),
         (eaZp zp, .write, v s.cpu)] ∧
      OnlyRamAt [eaZp zp] s t) ∧
  (∀ (s : State) (addr : Addr), s.Ready → ∀ i op v, (i, op, v) ∈
      ([(.styAbs addr, 0x8C, (fun c => c.y)), (.staAbs addr, 0x8D, (fun c => c.a)),
       (.stxAbs addr, 0x8E, (fun c => c.x)), (.saxAbs addr, 0x8F, (fun c => c.a &&& c.x))] : List StoreRow) →
    ∃ t, exec i s = .next t ∧
      Ends s t { entered op s.cpu with mcp := 44, a1 := addr, pc := s.cpu.pc + 3,
                                       d := v s.cpu } (busWrite s (addr) (v s.cpu))
        [(s.cpu.pc, .read, op),
         (s.cpu.pc + 1, .read, lo addr),
         (s.cpu.pc + 2, .read, hi addr),
         (addr, .write, v s.cpu)] ∧
      OnlyRamAt [addr] s t)

/-- Sequences `ZPX_W`, `ZPY_W` (rules R177, R213). -/
def Obligations.ZeroPageIndexedStoreResult : Prop :=
  (∀ (s : State) (zp : Byte), s.Ready → s.cpu.Inv → ∀ i op v, (i, op, v) ∈
      ([(.styZpx zp, 0x94, (fun c => c.y)), (.staZpx zp, 0x95, (fun c => c.a))] : List StoreRow) →
    ∃ t, exec i s = .next t ∧
      Ends s t { entered op s.cpu with mcp := 22, zpa := eaZpIndexed zp s.cpu.x, pc := s.cpu.pc + 2,
                                       d := v s.cpu } (busWrite s (eaZpIndexed zp s.cpu.x) (v s.cpu))
        [(s.cpu.pc, .read, op),
         (s.cpu.pc + 1, .read, zp),
         (eaZp zp, .read, s.readAt 2 (eaZp zp)),
         (eaZpIndexed zp s.cpu.x, .write, v s.cpu)] ∧
      OnlyRamAt [eaZpIndexed zp s.cpu.x] s t) ∧
  (∀ (s : State) (zp : Byte), s.Ready → s.cpu.Inv → ∀ i op v, (i, op, v) ∈
      ([(.stxZpy zp, 0x96, (fun c => c.x)), (.saxZpy zp, 0x97, (fun c => c.a &&& c.x))] : List StoreRow) →
    ∃ t, exec i s = .next t ∧
      Ends s t { entered op s.cpu with mcp := 36, zpa := eaZpIndexed zp s.cpu.y, pc := s.cpu.pc + 2,
                                       d := v s.cpu } (busWrite s (eaZpIndexed zp s.cpu.y) (v s.cpu))
        [(s.cpu.pc, .read, op),
         (s.cpu.pc + 1, .read, zp),
         (eaZp zp, .read, s.readAt 2 (eaZp zp)),
         (eaZpIndexed zp s.cpu.y, .write, v s.cpu)] ∧
      OnlyRamAt [eaZpIndexed zp s.cpu.y] s t)

/-- Sequences `ABX_W`, `ABY_W` (rules R183, R216). -/
def Obligations.AbsoluteIndexedStoreResult : Prop :=
  (∀ (s : State) (addr : Addr), s.Ready → ∀ i op v, (i, op, v) ∈
      ([(.staAbx addr, 0x9D, (fun c => c.a))] : List StoreRow) →
    ∃ t, exec i s = .next t ∧
      Ends s t { entered op s.cpu with mcp := 60, a1 := eaUncarried addr s.cpu.x, pc := s.cpu.pc + 3,
                                       a2 := eaIndexed addr s.cpu.x,
                                       d := v s.cpu } (busWrite s (eaIndexed addr s.cpu.x) (v s.cpu))
        [(s.cpu.pc, .read, op),
         (s.cpu.pc + 1, .read, lo addr),
         (s.cpu.pc + 2, .read, hi addr),
         (eaUncarried addr s.cpu.x, .read, s.readAt 3 (eaUncarried addr s.cpu.x)),
         (eaIndexed addr s.cpu.x, .write, v s.cpu)] ∧
      OnlyRamAt [eaIndexed addr s.cpu.x] s t) ∧
  (∀ (s : State) (addr : Addr), s.Ready → ∀ i op v, (i, op, v) ∈
      ([(.staAby addr, 0x99, (fun c => c.a))] : List StoreRow) →
    ∃ t, exec i s = .next t ∧
      Ends s t { entered op s.cpu with mcp := 82, a1 := eaUncarried addr s.cpu.y, pc := s.cpu.pc + 3,
                                       a2 := eaIndexed addr s.cpu.y,
                                       d := v s.cpu } (busWrite s (eaIndexed addr s.cpu.y) (v s.cpu))
        [(s.cpu.pc, .read, op),
         (s.cpu.pc + 1, .read, lo addr),
         (s.cpu.pc + 2, .read, hi addr),
         (eaUncarried addr s.cpu.y, .read, s.readAt 3 (eaUncarried addr s.cpu.y)),
         (eaIndexed addr s.cpu.y, .write, v s.cpu)] ∧
      OnlyRamAt [eaIndexed addr s.cpu.y] s t)

/-- Sequences `IZX_W`, `IZY_W` (rules R218, R220). -/
def Obligations.IndirectStoreResult : Prop :=
  (∀ (s : State) (zp : Byte), s.Ready → s.cpu.Inv → ∀ i op v, (i, op, v) ∈
      ([(.staIzx zp, 0x81, (fun c => c.a)), (.saxIzx zp, 0x83, (fun c => c.a &&& c.x))] : List StoreRow) →
    ∃ t, exec i s = .next t ∧
      Ends s t { entered op s.cpu with mcp := 106, zpa := eaZpIndexed (zp + 1) s.cpu.x, pc := s.cpu.pc + 2,
                                       a1 := pointerX s zp, d := v s.cpu } (busWrite s (pointerX s zp) (v s.cpu))
        [(s.cpu.pc, .read, op),
         (s.cpu.pc + 1, .read, zp),
         (eaZp zp, .read, s.readAt 2 (eaZp zp)),
         (eaZpIndexed zp s.cpu.x, .read, s.readAt 3 (eaZpIndexed zp s.cpu.x)),
         (eaZpIndexed (zp + 1) s.cpu.x, .read, s.readAt 4 (eaZpIndexed (zp + 1) s.cpu.x)),
         (pointerX s zp, .write, v s.cpu)] ∧
      OnlyRamAt [pointerX s zp] s t) ∧
  (∀ (s : State) (zp : Byte), s.Ready → s.cpu.Inv → ∀ i op v, (i, op, v) ∈
      ([(.staIzy zp, 0x91, (fun c => c.a))] : List StoreRow) →
    ∃ t, exec i s = .next t ∧
      Ends s t { entered op s.cpu with mcp := 126, zpa := eaZp (zp + 1), pc := s.cpu.pc + 2,
                                       a1 := eaUncarried (pointerY s zp) s.cpu.y,
                                       a2 := eaIndexed (pointerY s zp) s.cpu.y,
                                       d := v s.cpu } (busWrite s (eaIndexed (pointerY s zp) s.cpu.y) (v s.cpu))
        [(s.cpu.pc, .read, op),
         (s.cpu.pc + 1, .read, zp),
         (eaZp zp, .read, s.readAt 2 (eaZp zp)),
         (eaZp (zp + 1), .read, s.readAt 3 (eaZp (zp + 1))),
         (eaUncarried (pointerY s zp) s.cpu.y, .read, s.readAt 4 (eaUncarried (pointerY s zp) s.cpu.y)),
         (eaIndexed (pointerY s zp) s.cpu.y, .write, v s.cpu)] ∧
      OnlyRamAt [eaIndexed (pointerY s zp) s.cpu.y] s t)

/-- The `_SH` sequences (rule R178): the stored value is masked with the base's high byte plus 1, and on a page cross it
replaces the high byte of the address. `r` is the register's value. -/
def Obligations.HighByteMaskedStoreResult : Prop :=
  (∀ (s : State) (addr : Addr), s.Ready → ∀ i op r, (i, op, r) ∈
      ([(.shyAbx addr, 0x9C, (fun c => c.y))] : List StoreRow) →
    ∀ v target, v = r s.cpu &&& (hi addr + 1) →
    target = (if pageCross addr s.cpu.x then setHi (eaIndexed addr s.cpu.x) v else eaIndexed addr s.cpu.x) →
    ∃ t, exec i s = .next t ∧
      Ends s t { entered op s.cpu with mcp := 72, a1 := eaUncarried addr s.cpu.x, pc := s.cpu.pc + 3, a2 := target,
                                       d := v,
                                       sp := if op = 0x9B then setLo s.cpu.sp (s.cpu.a &&& s.cpu.x) else s.cpu.sp } (busWrite s target v)
        [(s.cpu.pc, .read, op),
         (s.cpu.pc + 1, .read, lo addr),
         (s.cpu.pc + 2, .read, hi addr),
         (eaUncarried addr s.cpu.x, .read, s.readAt 3 (eaUncarried addr s.cpu.x)),
         (target, .write, v)] ∧
      OnlyRamAt [target] s t) ∧
  (∀ (s : State) (addr : Addr), s.Ready → ∀ i op r, (i, op, r) ∈
      ([(.tasAby addr, 0x9B, (fun c => c.a &&& c.x)), (.shxAby addr, 0x9E, (fun c => c.x)),
       (.shaAby addr, 0x9F, (fun c => c.a &&& c.x))] : List StoreRow) →
    ∀ v target, v = r s.cpu &&& (hi addr + 1) →
    target = (if pageCross addr s.cpu.y then setHi (eaIndexed addr s.cpu.y) v else eaIndexed addr s.cpu.y) →
    ∃ t, exec i s = .next t ∧
      Ends s t { entered op s.cpu with mcp := 94, a1 := eaUncarried addr s.cpu.y, pc := s.cpu.pc + 3, a2 := target,
                                       d := v,
                                       sp := if op = 0x9B then setLo s.cpu.sp (s.cpu.a &&& s.cpu.x) else s.cpu.sp } (busWrite s target v)
        [(s.cpu.pc, .read, op),
         (s.cpu.pc + 1, .read, lo addr),
         (s.cpu.pc + 2, .read, hi addr),
         (eaUncarried addr s.cpu.y, .read, s.readAt 3 (eaUncarried addr s.cpu.y)),
         (target, .write, v)] ∧
      OnlyRamAt [target] s t) ∧
  (∀ (s : State) (zp : Byte), s.Ready → s.cpu.Inv → ∀ i op r, (i, op, r) ∈
      ([(.shaIzy zp, 0x93, (fun c => c.a &&& c.x))] : List StoreRow) →
    ∀ v target, v = r s.cpu &&& (hi (pointerY s zp) + 1) →
    target = (if pageCross (pointerY s zp) s.cpu.y then setHi (eaIndexed (pointerY s zp) s.cpu.y) v else eaIndexed
      (pointerY s zp) s.cpu.y) →
    ∃ t, exec i s = .next t ∧
      Ends s t { entered op s.cpu with mcp := 140, zpa := eaZp (zp + 1), a1 := eaUncarried (pointerY s zp) s.cpu.y,
                                       pc := s.cpu.pc + 2, a2 := target, d := v,
                                       sp := if op = 0x9B then setLo s.cpu.sp (s.cpu.a &&& s.cpu.x) else s.cpu.sp } (busWrite s target v)
        [(s.cpu.pc, .read, op),
         (s.cpu.pc + 1, .read, zp),
         (eaZp zp, .read, s.readAt 2 (eaZp zp)),
         (eaZp (zp + 1), .read, s.readAt 3 (eaZp (zp + 1))),
         (eaUncarried (pointerY s zp) s.cpu.y, .read, s.readAt 4 (eaUncarried (pointerY s zp) s.cpu.y)),
         (target, .write, v)] ∧
      OnlyRamAt [target] s t)

/-- Sequences `ZP_M`, `ZPX_M` (rules R76, R212, R213); `r` is the engine after the operation. -/
def Obligations.ZeroPageModifyResults : Prop :=
  ((∀ (s : State) (zp : Byte), s.Ready → s.cpu.Inv → ∀ i op f, (i, op, f) ∈
      ([(.aslZp zp, 0x06, (shiftD asl8)), (.sloZp zp, 0x07, opSlo), (.rolZp zp, 0x26, (shiftD rol8)),
       (.rlaZp zp, 0x27, opRla), (.lsrZp zp, 0x46, (shiftD lsr8)), (.sreZp zp, 0x47, opSre),
       (.rorZp zp, 0x66, (shiftD ror8)), (.rraZp zp, 0x67, opRra), (.decZp zp, 0xC6, opDec),
       (.dcpZp zp, 0xC7, opDcp), (.incZp zp, 0xE6, opInc), (.iscZp zp, 0xE7, opIsc)] : List Row) →
    ∀ r, r = f { entered op s.cpu with mcp := 13, zpa := eaZp zp, pc := s.cpu.pc + 2, d := s.readAt 2 (eaZp zp) } →
    ∃ t, exec i s = .next t ∧
      Ends s t { r with mcp := 14 } (busWrite (busWrite s (eaZp zp) (s.readAt 2 (eaZp zp))) (eaZp zp) r.d)
        [(s.cpu.pc, .read, op),
         (s.cpu.pc + 1, .read, zp),
         (eaZp zp, .read, s.readAt 2 (eaZp zp)),
         (eaZp zp, .write, s.readAt 2 (eaZp zp)),
         (eaZp zp, .write, r.d)] ∧
      OnlyRamAt [eaZp zp] s t)) ∧
  ((∀ (s : State) (zp : Byte), s.Ready → s.cpu.Inv → ∀ i op f, (i, op, f) ∈
      ([(.aslZpx zp, 0x16, (shiftD asl8)), (.sloZpx zp, 0x17, opSlo), (.rolZpx zp, 0x36, (shiftD rol8)),
       (.rlaZpx zp, 0x37, opRla), (.lsrZpx zp, 0x56, (shiftD lsr8)), (.sreZpx zp, 0x57, opSre),
       (.rorZpx zp, 0x76, (shiftD ror8)), (.rraZpx zp, 0x77, opRra), (.decZpx zp, 0xD6, opDec),
       (.dcpZpx zp, 0xD7, opDcp), (.incZpx zp, 0xF6, opInc), (.iscZpx zp, 0xF7, opIsc)] : List Row) →
    ∀ r, r = f { entered op s.cpu with mcp := 27, zpa := eaZpIndexed zp s.cpu.x, pc := s.cpu.pc + 2,
                                       d := s.readAt 3 (eaZpIndexed zp s.cpu.x) } →
    ∃ t, exec i s = .next t ∧
      Ends s t { r with mcp := 28 } (busWrite (busWrite s (eaZpIndexed zp s.cpu.x) (s.readAt 3 (eaZpIndexed zp
        s.cpu.x))) (eaZpIndexed zp s.cpu.x) r.d)
        [(s.cpu.pc, .read, op),
         (s.cpu.pc + 1, .read, zp),
         (eaZp zp, .read, s.readAt 2 (eaZp zp)),
         (eaZpIndexed zp s.cpu.x, .read, s.readAt 3 (eaZpIndexed zp s.cpu.x)),
         (eaZpIndexed zp s.cpu.x, .write, s.readAt 3 (eaZpIndexed zp s.cpu.x)),
         (eaZpIndexed zp s.cpu.x, .write, r.d)] ∧
      OnlyRamAt [eaZpIndexed zp s.cpu.x] s t))

/-- Sequence `ABS_M` (rules R76, R214). -/
def Obligations.AbsoluteModifyResult : Prop :=
  (∀ (s : State) (addr : Addr), s.Ready → ∀ i op f, (i, op, f) ∈
      ([(.aslAbs addr, 0x0E, (shiftD asl8)), (.sloAbs addr, 0x0F, opSlo), (.rolAbs addr, 0x2E, (shiftD rol8)),
       (.rlaAbs addr, 0x2F, opRla), (.lsrAbs addr, 0x4E, (shiftD lsr8)), (.sreAbs addr, 0x4F, opSre),
       (.rorAbs addr, 0x6E, (shiftD ror8)), (.rraAbs addr, 0x6F, opRra), (.decAbs addr, 0xCE, opDec),
       (.dcpAbs addr, 0xCF, opDcp), (.incAbs addr, 0xEE, opInc), (.iscAbs addr, 0xEF, opIsc)] : List Row) →
    ∀ r, r = f { entered op s.cpu with mcp := 49, a1 := addr, pc := s.cpu.pc + 3, d := s.readAt 3 addr } →
    ∃ t, exec i s = .next t ∧
      Ends s t { r with mcp := 50 } (busWrite (busWrite s (addr) (s.readAt 3 addr)) (addr) r.d)
        [(s.cpu.pc, .read, op),
         (s.cpu.pc + 1, .read, lo addr),
         (s.cpu.pc + 2, .read, hi addr),
         (addr, .read, s.readAt 3 addr),
         (addr, .write, s.readAt 3 addr),
         (addr, .write, r.d)] ∧
      OnlyRamAt [addr] s t)

/-- Sequences `ABX_M`, `ABY_M` (rules R76, R217). -/
def Obligations.AbsoluteIndexedModifyResult : Prop :=
  (∀ (s : State) (addr : Addr), s.Ready → ∀ i op f, (i, op, f) ∈
      ([(.aslAbx addr, 0x1E, (shiftD asl8)), (.sloAbx addr, 0x1F, opSlo), (.rolAbx addr, 0x3E, (shiftD rol8)),
       (.rlaAbx addr, 0x3F, opRla), (.lsrAbx addr, 0x5E, (shiftD lsr8)), (.sreAbx addr, 0x5F, opSre),
       (.rorAbx addr, 0x7E, (shiftD ror8)), (.rraAbx addr, 0x7F, opRra), (.decAbx addr, 0xDE, opDec),
       (.dcpAbx addr, 0xDF, opDcp), (.incAbx addr, 0xFE, opInc), (.iscAbx addr, 0xFF, opIsc)] : List Row) →
    ∀ r, r = f { entered op s.cpu with mcp := 66, a1 := eaUncarried addr s.cpu.x, pc := s.cpu.pc + 3,
                                       a2 := eaIndexed addr s.cpu.x, d := s.readAt 4 (eaIndexed addr s.cpu.x) } →
    ∃ t, exec i s = .next t ∧
      Ends s t { r with mcp := 67 } (busWrite (busWrite s (eaIndexed addr s.cpu.x) (s.readAt 4 (eaIndexed addr
        s.cpu.x))) (eaIndexed addr s.cpu.x) r.d)
        [(s.cpu.pc, .read, op),
         (s.cpu.pc + 1, .read, lo addr),
         (s.cpu.pc + 2, .read, hi addr),
         (eaUncarried addr s.cpu.x, .read, s.readAt 3 (eaUncarried addr s.cpu.x)),
         (eaIndexed addr s.cpu.x, .read, s.readAt 4 (eaIndexed addr s.cpu.x)),
         (eaIndexed addr s.cpu.x, .write, s.readAt 4 (eaIndexed addr s.cpu.x)),
         (eaIndexed addr s.cpu.x, .write, r.d)] ∧
      OnlyRamAt [eaIndexed addr s.cpu.x] s t) ∧
  (∀ (s : State) (addr : Addr), s.Ready → ∀ i op f, (i, op, f) ∈
      ([(.sloAby addr, 0x1B, opSlo), (.rlaAby addr, 0x3B, opRla), (.sreAby addr, 0x5B, opSre),
       (.rraAby addr, 0x7B, opRra), (.dcpAby addr, 0xDB, opDcp), (.iscAby addr, 0xFB, opIsc)] : List Row) →
    ∀ r, r = f { entered op s.cpu with mcp := 88, a1 := eaUncarried addr s.cpu.y, pc := s.cpu.pc + 3,
                                       a2 := eaIndexed addr s.cpu.y, d := s.readAt 4 (eaIndexed addr s.cpu.y) } →
    ∃ t, exec i s = .next t ∧
      Ends s t { r with mcp := 89 } (busWrite (busWrite s (eaIndexed addr s.cpu.y) (s.readAt 4 (eaIndexed addr
        s.cpu.y))) (eaIndexed addr s.cpu.y) r.d)
        [(s.cpu.pc, .read, op),
         (s.cpu.pc + 1, .read, lo addr),
         (s.cpu.pc + 2, .read, hi addr),
         (eaUncarried addr s.cpu.y, .read, s.readAt 3 (eaUncarried addr s.cpu.y)),
         (eaIndexed addr s.cpu.y, .read, s.readAt 4 (eaIndexed addr s.cpu.y)),
         (eaIndexed addr s.cpu.y, .write, s.readAt 4 (eaIndexed addr s.cpu.y)),
         (eaIndexed addr s.cpu.y, .write, r.d)] ∧
      OnlyRamAt [eaIndexed addr s.cpu.y] s t)

/-- Sequences `IZX_M`, `IZY_M` (rules R76, R218, R220). -/
def Obligations.IndirectModifyResult : Prop :=
  (∀ (s : State) (zp : Byte), s.Ready → s.cpu.Inv → ∀ i op f, (i, op, f) ∈
      ([(.sloIzx zp, 0x03, opSlo), (.rlaIzx zp, 0x23, opRla), (.sreIzx zp, 0x43, opSre),
       (.rraIzx zp, 0x63, opRra), (.dcpIzx zp, 0xC3, opDcp), (.iscIzx zp, 0xE3, opIsc)] : List Row) →
    ∀ r, r = f { entered op s.cpu with mcp := 113, zpa := eaZpIndexed (zp + 1) s.cpu.x, pc := s.cpu.pc + 2,
                                       a1 := pointerX s zp, d := s.readAt 5 (pointerX s zp) } →
    ∃ t, exec i s = .next t ∧
      Ends s t { r with mcp := 114 } (busWrite (busWrite s (pointerX s zp) (s.readAt 5 (pointerX s zp))) (pointerX s
        zp) r.d)
        [(s.cpu.pc, .read, op),
         (s.cpu.pc + 1, .read, zp),
         (eaZp zp, .read, s.readAt 2 (eaZp zp)),
         (eaZpIndexed zp s.cpu.x, .read, s.readAt 3 (eaZpIndexed zp s.cpu.x)),
         (eaZpIndexed (zp + 1) s.cpu.x, .read, s.readAt 4 (eaZpIndexed (zp + 1) s.cpu.x)),
         (pointerX s zp, .read, s.readAt 5 (pointerX s zp)),
         (pointerX s zp, .write, s.readAt 5 (pointerX s zp)),
         (pointerX s zp, .write, r.d)] ∧
      OnlyRamAt [pointerX s zp] s t) ∧
  (∀ (s : State) (zp : Byte), s.Ready → s.cpu.Inv → ∀ i op f, (i, op, f) ∈
      ([(.sloIzy zp, 0x13, opSlo), (.rlaIzy zp, 0x33, opRla), (.sreIzy zp, 0x53, opSre),
       (.rraIzy zp, 0x73, opRra), (.dcpIzy zp, 0xD3, opDcp), (.iscIzy zp, 0xF3, opIsc)] : List Row) →
    ∀ r, r = f { entered op s.cpu with mcp := 133, zpa := eaZp (zp + 1), pc := s.cpu.pc + 2,
                                       a1 := eaUncarried (pointerY s zp) s.cpu.y,
                                       a2 := eaIndexed (pointerY s zp) s.cpu.y,
                                       d := s.readAt 5 (eaIndexed (pointerY s zp) s.cpu.y) } →
    ∃ t, exec i s = .next t ∧
      Ends s t { r with mcp := 134 } (busWrite (busWrite s (eaIndexed (pointerY s zp) s.cpu.y) (s.readAt 5 (eaIndexed
        (pointerY s zp) s.cpu.y))) (eaIndexed (pointerY s zp) s.cpu.y) r.d)
        [(s.cpu.pc, .read, op),
         (s.cpu.pc + 1, .read, zp),
         (eaZp zp, .read, s.readAt 2 (eaZp zp)),
         (eaZp (zp + 1), .read, s.readAt 3 (eaZp (zp + 1))),
         (eaUncarried (pointerY s zp) s.cpu.y, .read, s.readAt 4 (eaUncarried (pointerY s zp) s.cpu.y)),
         (eaIndexed (pointerY s zp) s.cpu.y, .read, s.readAt 5 (eaIndexed (pointerY s zp) s.cpu.y)),
         (eaIndexed (pointerY s zp) s.cpu.y, .write, s.readAt 5 (eaIndexed (pointerY s zp) s.cpu.y)),
         (eaIndexed (pointerY s zp) s.cpu.y, .write, r.d)] ∧
      OnlyRamAt [eaIndexed (pointerY s zp) s.cpu.y] s t)

/-- JMP (rules R184 to R186, R320). -/
def Obligations.JumpResult : Prop :=
  (∀ (s : State) (addr : Addr), s.Ready → ∃ t, exec (.jmpAbs addr) s = .next t ∧
      Ends s t { entered 0x4C s.cpu with mcp := 143, a1 := addr, pc := addr } s
        [(s.cpu.pc, .read, 0x4C),
         (s.cpu.pc + 1, .read, lo addr),
         (s.cpu.pc + 2, .read, hi addr)]) ∧
  (∀ (s : State) (addr : Addr), s.Ready → ∃ t, exec (.jmpInd addr) s = .next t ∧
      Ends s t { entered 0x6C s.cpu with mcp := 148, a1 := setLo addr (lo addr + 1),
                                         a2 := pair (s.readAt 4 (setLo addr (lo addr + 1))) (s.readAt 3 addr),
                                         pc := pair (s.readAt 4 (setLo addr (lo addr + 1))) (s.readAt 3 addr) } s
        [(s.cpu.pc, .read, 0x6C),
         (s.cpu.pc + 1, .read, lo addr),
         (s.cpu.pc + 2, .read, hi addr),
         (addr, .read, s.readAt 3 addr),
         (setLo addr (lo addr + 1), .read, s.readAt 4 (setLo addr (lo addr + 1)))])

/-- JSR and RTS (rules R321, R322); the stack wraps inside page 1 (rule R26). -/
def Obligations.SubroutineResult : Prop :=
  (∀ (s : State) (addr : Addr), s.Ready → ∃ t, exec (.jsrAbs addr) s = .next t ∧
      Ends s t { entered 0x20 s.cpu with mcp := 154, a1 := addr, pc := addr, d := s.readAt 2 s.cpu.sp,
                                         sp := stackBelow s.cpu 2 }
        (busWrite (busWrite s s.cpu.sp (hi (s.cpu.pc + 2))) (stackBelow s.cpu 1) (lo (s.cpu.pc + 2)))
        [(s.cpu.pc, .read, 0x20),
         (s.cpu.pc + 1, .read, lo addr),
         (s.cpu.sp, .read, s.readAt 2 s.cpu.sp),
         (s.cpu.sp, .write, hi (s.cpu.pc + 2)),
         (stackBelow s.cpu 1, .write, lo (s.cpu.pc + 2)),
         (s.cpu.pc + 2, .read, hi addr)] ∧
      OnlyRamAt [s.cpu.sp, stackBelow s.cpu 1] s t) ∧
  (∀ (s : State) (ret : Addr), s.Ready →
    ret = pair (s.readAt 4 (stackAbove s.cpu 2)) (s.readAt 3 (stackAbove s.cpu 1)) →
    ∃ t, exec .rts s = .next t ∧
      Ends s t { entered 0x60 s.cpu with mcp := 160, d := s.readAt 5 ret, sp := stackAbove s.cpu 2, pc := ret + 1 } s
        [(s.cpu.pc, .read, 0x60),
         (s.cpu.pc + 1, .read, s.readAt 1 (s.cpu.pc + 1)),
         (s.cpu.sp, .read, s.readAt 2 s.cpu.sp),
         (stackAbove s.cpu 1, .read, s.readAt 3 (stackAbove s.cpu 1)),
         (stackAbove s.cpu 2, .read, s.readAt 4 (stackAbove s.cpu 2)),
         (ret, .read, s.readAt 5 ret)])

/-- Return from an exception (rules R323, R434). -/
def Obligations.RtiResult : Prop :=
  ∀ (s : State), s.Ready → ∃ t, exec .rti s = .next t ∧
      Ends s t { entered 0x40 s.cpu with mcp := 166, d := s.readAt 2 s.cpu.sp, sp := stackAbove s.cpu 3,
                                         p := forceUB (s.readAt 3 (stackAbove s.cpu 1)),
                                         pc := pair (s.readAt 5 (stackAbove s.cpu 3)) (s.readAt 4 (stackAbove s.cpu 2)) } s
        [(s.cpu.pc, .read, 0x40),
         (s.cpu.pc + 1, .read, s.readAt 1 (s.cpu.pc + 1)),
         (s.cpu.sp, .read, s.readAt 2 s.cpu.sp),
         (stackAbove s.cpu 1, .read, s.readAt 3 (stackAbove s.cpu 1)),
         (stackAbove s.cpu 2, .read, s.readAt 4 (stackAbove s.cpu 2)),
         (stackAbove s.cpu 3, .read, s.readAt 5 (stackAbove s.cpu 3))]

/-- PHA and PHP (rules R350, R351). -/
def Obligations.PushResult : Prop :=
  (∀ (s : State), s.Ready → ∃ t, exec .pha s = .next t ∧
      Ends s t { entered 0x48 s.cpu with mcp := 169, d := s.cpu.a,
                                         sp := stackBelow s.cpu 1 } (busWrite s s.cpu.sp s.cpu.a)
        [(s.cpu.pc, .read, 0x48),
         (s.cpu.pc + 1, .read, s.readAt 1 (s.cpu.pc + 1)),
         (s.cpu.sp, .write, s.cpu.a)] ∧
      OnlyRamAt [s.cpu.sp] s t) ∧
  (∀ (s : State), s.Ready → ∃ t, exec .php s = .next t ∧
      Ends s t { entered 0x08 s.cpu with mcp := 172, d := forceUB (entryP s.cpu), sp := stackBelow s.cpu 1 }
        (busWrite s s.cpu.sp (forceUB (entryP s.cpu)))
        [(s.cpu.pc, .read, 0x08),
         (s.cpu.pc + 1, .read, s.readAt 1 (s.cpu.pc + 1)),
         (s.cpu.sp, .write, forceUB (entryP s.cpu))] ∧
      OnlyRamAt [s.cpu.sp] s t)

/-- PLA and PLP (rules R204, R352, R353). -/
def Obligations.PullResult : Prop :=
  (∀ (s : State), s.Ready → ∃ t, exec .pla s = .next t ∧
      Ends s t (opPla { entered 0x68 s.cpu with mcp := 176, d := s.readAt 3 (stackAbove s.cpu 1),
                                                sp := stackAbove s.cpu 1 }) s
        [(s.cpu.pc, .read, 0x68),
         (s.cpu.pc + 1, .read, s.readAt 1 (s.cpu.pc + 1)),
         (s.cpu.sp, .read, s.readAt 2 s.cpu.sp),
         (stackAbove s.cpu 1, .read, s.readAt 3 (stackAbove s.cpu 1))]) ∧
  (∀ (s : State), s.Ready → ∃ t, exec .plp s = .next t ∧
      Ends s t { entered 0x28 s.cpu with mcp := 180, d := s.readAt 3 (stackAbove s.cpu 1), sp := stackAbove s.cpu 1 } s
        [(s.cpu.pc, .read, 0x28),
         (s.cpu.pc + 1, .read, s.readAt 1 (s.cpu.pc + 1)),
         (s.cpu.sp, .read, s.readAt 2 s.cpu.sp),
         (stackAbove s.cpu 1, .read, s.readAt 3 (stackAbove s.cpu 1))] ∧
      entryP t.cpu = forceUB (s.readAt 3 (stackAbove s.cpu 1)))

/-- CLI and SEI (rules R202, R203, R356, R357). -/
def Obligations.MaskInstructionResult : Prop :=
  (∀ (s : State), s.Ready → ∃ t, exec .cli s = .next t ∧
      Ends s t { entered 0x58 s.cpu with mcp := 182, d := s.readAt 1 (s.cpu.pc + 1) } s
        [(s.cpu.pc, .read, 0x58),
         (s.cpu.pc + 1, .read, s.readAt 1 (s.cpu.pc + 1))] ∧
      entryP t.cpu = setFlag (entryP s.cpu) .i false) ∧
  (∀ (s : State), s.Ready → ∃ t, exec .sei s = .next t ∧
      Ends s t { entered 0x78 s.cpu with mcp := 184, d := s.readAt 1 (s.cpu.pc + 1) } s
        [(s.cpu.pc, .read, 0x78),
         (s.cpu.pc + 1, .read, s.readAt 1 (s.cpu.pc + 1))] ∧
      entryP t.cpu = setFlag (entryP s.cpu) .i true)

/-- The conditional branches (rules R325 to R333). -/
def Obligations.BranchResult : Prop :=
  ∀ (s : State) (disp : Byte), s.Ready → ∀ i op taken, (i, op, taken) ∈
      ([(.bplRel disp, 0x10, (fun p => !flag p .n)), (.bmiRel disp, 0x30, (fun p => flag p .n)),
       (.bvcRel disp, 0x50, (fun p => !flag p .v)), (.bvsRel disp, 0x70, (fun p => flag p .v)),
       (.bccRel disp, 0x90, (fun p => !flag p .c)), (.bcsRel disp, 0xB0, (fun p => flag p .c)),
       (.bneRel disp, 0xD0, (fun p => !flag p .z)), (.beqRel disp, 0xF0, (fun p => flag p .z))] : List BranchRow) →
    ∃ t, exec i s = .next t ∧
      if taken (entryP s.cpu) = false then
        Ends s t { entered op s.cpu with d := disp, pc := s.cpu.pc + 2, mcp := 202 } s
        [(s.cpu.pc, .read, op),
         (s.cpu.pc + 1, .read, disp)]
      else if hi (eaRelative (s.cpu.pc + 2) disp) = hi (s.cpu.pc + 2) then
        Ends s t { entered op s.cpu with d := s.readAt 2 (s.cpu.pc + 2), a3 := eaRelative (s.cpu.pc + 2) disp,
                                         pc := eaRelative (s.cpu.pc + 2) disp, mcp := 204 } s
        [(s.cpu.pc, .read, op),
         (s.cpu.pc + 1, .read, disp),
         (s.cpu.pc + 2, .read, s.readAt 2 (s.cpu.pc + 2))]
      else
        Ends s t { entered op s.cpu with d := s.readAt 3 (setLo (s.cpu.pc + 2) (lo (eaRelative (s.cpu.pc + 2) disp))),
                                         a3 := eaRelative (s.cpu.pc + 2) disp, pc := eaRelative (s.cpu.pc + 2) disp,
                                         mcp := 202 } s
        [(s.cpu.pc, .read, op),
         (s.cpu.pc + 1, .read, disp),
         (s.cpu.pc + 2, .read, s.readAt 2 (s.cpu.pc + 2)),
         (setLo (s.cpu.pc + 2) (lo (eaRelative (s.cpu.pc + 2) disp)), .read,
           s.readAt 3 (setLo (s.cpu.pc + 2) (lo (eaRelative (s.cpu.pc + 2) disp))))]

/-- The software break (rules R324, R430). `m` is the memory side after the three pushes. -/
def Obligations.SoftwareBreakResult : Prop :=
  ∀ (s m : State) (ret vec target : Addr) (pushed : Byte), s.Ready →
    ret = s.cpu.pc + 2 → pushed = forceUB (entryP s.cpu) →
    vec = (if s.cpu.nmiT = .idle then 0xFFFE else 0xFFFA) →
      m = (busWrite (busWrite (busWrite s s.cpu.sp (hi ret)) (stackBelow s.cpu 1) (lo ret)) (stackBelow s.cpu 2)
        pushed) →
    target = pair (m.readAt 6 (vec + 1)) (m.readAt 5 vec) →
    ∃ t, exec .brk s = .next t ∧
      Ends s t
        { entered 0x00 s.cpu with d := pushed, sp := stackBelow s.cpu 3,
                                  pc := target, a1 := target, a4 := vec + 1, nmiT := .idle,
                                  p := setFlag (entryP s.cpu) .i true, mcp := 191 }
        m
        [(s.cpu.pc, .read, 0x00), (s.cpu.pc + 1, .read, s.readAt 1 (s.cpu.pc + 1)), (s.cpu.sp, .write, hi ret),
          (stackBelow s.cpu 1, .write, lo ret),
         (stackBelow s.cpu 2, .write, pushed), (vec, .read, m.readAt 5 vec), (vec + 1, .read, m.readAt 6 (vec + 1))] ∧
      OnlyRamAt [s.cpu.sp, stackBelow s.cpu 1, stackBelow s.cpu 2] s t

/-- Taking a hardware interrupt (rules R201, R430, R431). The byte fetched at the boundary is discarded. -/
def Obligations.HardwareEntryResult : Prop :=
  ∀ (s m : State) (i : Instr) (ret vec target : Addr) (pushed : Byte), isBoundary s.cpu.mcp = true → s.inputs = [] →
    foundSources s.cpu ≠ 0 → i.wellFormed = true →
    ret = s.cpu.pc → pushed = (entryP s.cpu ||| 0x20) &&& 0xEF →
    vec = (if s.cpu.nmiT = .idle then 0xFFFE else 0xFFFA) →
      m = (busWrite (busWrite (busWrite s s.cpu.sp (hi ret)) (stackBelow s.cpu 1) (lo ret)) (stackBelow s.cpu 2)
        pushed) →
    target = pair (m.readAt 6 (vec + 1)) (m.readAt 5 vec) →
    ∃ t, exec i s = .next t ∧
      Ends s t
        { interrupted (foundSources s.cpu) s.cpu with d := pushed, sp := stackBelow s.cpu 3,
                                                      pc := target, a1 := target, a4 := vec + 1, nmiT := .idle,
                                                      p := setFlag (entryP s.cpu) .i true, mcp := 191 }
        m
        [(s.cpu.pc, .read, (encode i).headD 0), (s.cpu.pc, .read, s.readAt 1 s.cpu.pc), (s.cpu.sp, .write, hi ret),
          (stackBelow s.cpu 1, .write, lo ret),
         (stackBelow s.cpu 2, .write, pushed), (vec, .read, m.readAt 5 vec), (vec + 1, .read, m.readAt 6 (vec + 1))] ∧
      OnlyRamAt [s.cpu.sp, stackBelow s.cpu 1, stackBelow s.cpu 2] s t

/-- The hijack window of a BRK entry and of an IRQ entry (rule R432), for every cycle in which the edge can come. -/
def Obligations.HijackWindow : Prop :=
  (∀ (s m : State) (j : Nat) (level : Bool) (ret vec : Addr) (pushed : Byte), isBoundary s.cpu.mcp = true →
    foundSources s.cpu = 0 →
    s.cpu.nmiT = .idle → s.cpu.nmiLine = false → 1 ≤ j → j ≤ 7 →
    s.inputs = (List.range 7).map (fun k => Event.cycle { quietInput (s.clock + k) with
      irq := level, nmi := decide (j ≤ k + 1) }) →
    ret = s.cpu.pc + 2 → pushed = forceUB (entryP s.cpu) → vec = (if j ≤ 4 then 0xFFFA else 0xFFFE) →
    m = (busWrite (busWrite (busWrite s s.cpu.sp (hi ret)) (stackBelow s.cpu 1) (lo ret)) (stackBelow s.cpu 2) pushed) →
    ∃ t, exec .brk s = .next t ∧
      t.trace.map BusEvent.transfer =
        [some (s.cpu.pc, .read, 0x00), some (s.cpu.pc + 1, .read, s.readAt 1 (s.cpu.pc + 1)),
         some (s.cpu.sp, .write, hi ret), some (stackBelow s.cpu 1, .write, lo ret),
         some (stackBelow s.cpu 2, .write, pushed), some (vec, .read, m.readAt 5 vec),
         some (vec + 1, .read, m.readAt 6 (vec + 1))] ∧
      t.cpu.pc = pair (m.readAt 6 (vec + 1)) (m.readAt 5 vec) ∧ t.cpu.sp = stackBelow s.cpu 3 ∧
      t.cpu.p = setFlag (entryP s.cpu) .i true ∧ t.inputs = [] ∧ (t.cpu.nmiT = .idle ↔ j ≤ 4)) ∧
  (∀ (s m : State) (i : Instr) (j : Nat) (level : Bool) (ret vec : Addr) (pushed : Byte),
    isBoundary s.cpu.mcp = true → foundSources s.cpu = srcIrq → i.wellFormed = true →
    s.cpu.nmiT = .idle → s.cpu.nmiLine = false → 1 ≤ j → j ≤ 7 →
    s.inputs = (List.range 7).map (fun k => Event.cycle { quietInput (s.clock + k) with
      irq := level, nmi := decide (j ≤ k + 1) }) →
    ret = s.cpu.pc → pushed = (entryP s.cpu ||| 0x20) &&& 0xEF → vec = (if j ≤ 4 then 0xFFFA else 0xFFFE) →
    m = (busWrite (busWrite (busWrite s s.cpu.sp (hi ret)) (stackBelow s.cpu 1) (lo ret)) (stackBelow s.cpu 2) pushed) →
    ∃ t, exec i s = .next t ∧
      t.trace.map BusEvent.transfer =
        [some (s.cpu.pc, .read, (encode i).headD 0), some (s.cpu.pc, .read, s.readAt 1 s.cpu.pc),
         some (s.cpu.sp, .write, hi ret), some (stackBelow s.cpu 1, .write, lo ret),
         some (stackBelow s.cpu 2, .write, pushed), some (vec, .read, m.readAt 5 vec),
         some (vec + 1, .read, m.readAt 6 (vec + 1))] ∧
      t.cpu.pc = pair (m.readAt 6 (vec + 1)) (m.readAt 5 vec) ∧ t.cpu.sp = stackBelow s.cpu 3 ∧
      t.cpu.p = setFlag (entryP s.cpu) .i true ∧ t.inputs = [] ∧ (t.cpu.nmiT = .idle ↔ j ≤ 4))

/-- The reset sequence up to its opcode fetch (rule R472), from any state. -/
def Obligations.ResetSequenceResult : Prop :=
  ∀ (s : State) (target : Addr), s.inputs = [] → target = pair (s.readAt 6 0xFFFD) (s.readAt 5 0xFFFC) →
    ∃ t, exec .reset s = .next t ∧
      Ends s t
        { s.cpu with d := s.readAt 4 (stackBelow s.cpu 2), sp := stackBelow s.cpu 3, a4 := 0xFFFD, a1 := target,
                     pc := target, p := setFlag s.cpu.p .i true, mcp := 215, nmiT := s.cpu.nmiT.advance,
                     irqT := .idle, nmiLine := false }
        s
        [(s.cpu.pc, .read, s.readAt 0 s.cpu.pc), (s.cpu.pc, .read, s.readAt 1 s.cpu.pc),
         (s.cpu.sp, .read, s.readAt 2 s.cpu.sp), (stackBelow s.cpu 1, .read, s.readAt 3 (stackBelow s.cpu 1)),
         (stackBelow s.cpu 2, .read, s.readAt 4 (stackBelow s.cpu 2)), (0xFFFC, .read, s.readAt 5 0xFFFC),
         (0xFFFD, .read, s.readAt 6 0xFFFD)]

/-- The halt opcodes and the halted state (rules R206, R391, R450). -/
def Obligations.JamResult : Prop :=
  (∀ (s : State), s.Ready → ∀ i op f, (i, op, f) ∈
      ([(.jam02, 0x02, (fun c => c)), (.jam12, 0x12, (fun c => c)), (.jam22, 0x22, (fun c => c)),
       (.jam32, 0x32, (fun c => c)), (.jam42, 0x42, (fun c => c)), (.jam52, 0x52, (fun c => c)),
       (.jam62, 0x62, (fun c => c)), (.jam72, 0x72, (fun c => c)), (.jam92, 0x92, (fun c => c)),
       (.jamB2, 0xB2, (fun c => c)), (.jamD2, 0xD2, (fun c => c)), (.jamF2, 0xF2, (fun c => c))] : List Row) →
    ∃ t, exec i s = .next t ∧
      Ends s t (f { entered op s.cpu with mcp := 206, d := s.readAt 1 (s.cpu.pc + 1) }) s
        [(s.cpu.pc, .read, op),
         (s.cpu.pc + 1, .read, s.readAt 1 (s.cpu.pc + 1))] ∧ isHalted t.cpu.mcp = true) ∧
  (∀ (s : State), isHalted s.cpu.mcp = true → s.inputs = [] → ∃ t, step s = .next t ∧
      Ends s t { s.cpu with d := s.readAt 0 s.cpu.pc, nmiT := s.cpu.nmiT.advance, irqT := .idle, nmiLine := false } s
        [(s.cpu.pc, .read, s.readAt 0 s.cpu.pc)])

/-- `set_nz` (rule R280). -/
def Obligations.NzRule : Prop :=
  ∀ p v : Byte, TakesNZ p (setNZ p v) v

/-- What the operations compute (rules R260 to R271, R284 to R286, R292, R308 to R313, R354 to R360). -/
def Obligations.OperationResults : Prop :=
  (∀ c : Cpu,
    opLda c = { c with a := c.d, p := setNZ c.p c.d } ∧ opLdx c = { c with x := c.d, p := setNZ c.p c.d } ∧
    opLdy c = { c with y := c.d, p := setNZ c.p c.d } ∧ opPla c = { c with a := c.d, p := setNZ c.p c.d } ∧
    opTax c = { c with x := c.a, p := setNZ c.p c.a } ∧ opTay c = { c with y := c.a, p := setNZ c.p c.a } ∧
    opTxa c = { c with a := c.x, p := setNZ c.p c.x } ∧ opTya c = { c with a := c.y, p := setNZ c.p c.y } ∧
    opTsx c = { c with x := lo c.sp, p := setNZ c.p (lo c.sp) } ∧
    opOra c = { c with a := c.a ||| c.d, p := setNZ c.p (c.a ||| c.d) } ∧
    opAnd c = { c with a := c.a &&& c.d, p := setNZ c.p (c.a &&& c.d) } ∧
    opEor c = { c with a := c.a ^^^ c.d, p := setNZ c.p (c.a ^^^ c.d) } ∧
    opInx c = { c with x := c.x + 1, p := setNZ c.p (c.x + 1) } ∧
    opIny c = { c with y := c.y + 1, p := setNZ c.p (c.y + 1) } ∧
    opDex c = { c with x := c.x - 1, p := setNZ c.p (c.x - 1) } ∧
    opDey c = { c with y := c.y - 1, p := setNZ c.p (c.y - 1) } ∧
    opInc c = { c with d := c.d + 1, p := setNZ c.p (c.d + 1) } ∧
    opDec c = { c with d := c.d - 1, p := setNZ c.p (c.d - 1) }) ∧
  (∀ c : Cpu,
    (∀ op g on, (op, g, on) ∈ ([(opClc, .c, false), (opSec, .c, true), (opCld, .d, false), (opSed, .d, true),
        (opClv, .v, false)] : List ((Cpu → Cpu) × Flag × Bool)) →
      op c = { c with p := (op c).p } ∧ flag (op c).p g = on ∧ OnlyFlags [g] c.p (op c).p) ∧
    (opBit c = { c with p := (opBit c).p } ∧ flag (opBit c).p .n = c.d.getLsbD 7 ∧ flag (opBit c).p .v = c.d.getLsbD 6 ∧
      flag (opBit c).p .z = decide (c.a &&& c.d = 0) ∧ OnlyFlags [.n, .v, .z] c.p (opBit c).p) ∧
    opTxs c = { c with sp := pair (hi c.sp) c.x })

/-- `adc8` (rule R281), in the arithmetic of natural numbers. -/
def Obligations.AdcRule : Prop :=
  (∀ (c0 : Cpu) (a v t c : Nat), a = c0.a.toNat → v = c0.d.toNat → c = carryNat (flag c0.p .c) → t = a + v + c →
    opAdc c0 = { c0 with a := (opAdc c0).a, p := (opAdc c0).p } ∧ OnlyFlags [.n, .v, .z, .c] c0.p (opAdc c0).p ∧
    (flag c0.p .d = false →
      (opAdc c0).a.toNat = t % 256 ∧ flag (opAdc c0).p .c = decide (t > 0xFF) ∧
      flag (opAdc c0).p .v = decide ((a ^^^ t) &&& (v ^^^ t) &&& 0x80 ≠ 0) ∧
      flag (opAdc c0).p .v = ((~~~(c0.a ^^^ c0.d) &&& (c0.a ^^^ (opAdc c0).a)).getLsbD 7) ∧
      flag (opAdc c0).p .n = t.testBit 7 ∧ flag (opAdc c0).p .z = decide (t % 256 = 0)) ∧
    (∀ al ah : Nat, flag c0.p .d = true →
      al = (if (a &&& 0x0F) + (v &&& 0x0F) + c > 9 then (a &&& 0x0F) + (v &&& 0x0F) + c + 6
            else (a &&& 0x0F) + (v &&& 0x0F) + c) →
      ah = (a >>> 4) + (v >>> 4) + (if al > 0x0F then 1 else 0) →
      flag (opAdc c0).p .z = decide (t % 256 = 0) ∧ flag (opAdc c0).p .n = decide (ah &&& 0x08 ≠ 0) ∧
      flag (opAdc c0).p .v = ((c0.a ^^^ BitVec.ofNat 8 (ah <<< 4)) &&& ~~~(c0.a ^^^ c0.d)).getLsbD 7 ∧
      flag (opAdc c0).p .c = decide ((if ah > 9 then ah + 6 else ah) > 0x0F) ∧
      (opAdc c0).a = BitVec.ofNat 8 (((if ah > 9 then ah + 6 else ah) <<< 4) ||| (al &&& 0x0F)))) ∧
  (adc8 0x38 0x0F 0x0F).1 = 0x14

/-- `sbc8` (rule R282), in the arithmetic of integers. -/
def Obligations.SbcRule : Prop :=
  ∀ (c0 : Cpu) (a v c t : Int) (b : Byte), a = c0.a.toNat → v = c0.d.toNat → c = carryNat (flag c0.p .c) →
    t = a - v - (1 - c) → b = BitVec.ofInt 8 t →
    opSbc c0 = { c0 with a := (opSbc c0).a, p := (opSbc c0).p } ∧ OnlyFlags [.n, .v, .z, .c] c0.p (opSbc c0).p ∧
    flag (opSbc c0).p .c = decide (0 ≤ t) ∧ flag (opSbc c0).p .n = b.getLsbD 7 ∧
    flag (opSbc c0).p .z = decide (b = 0) ∧
    flag (opSbc c0).p .v = ((c0.a ^^^ c0.d) &&& (c0.a ^^^ b)).getLsbD 7 ∧
    (flag c0.p .d = false → (opSbc c0).a = b) ∧
    (∀ al r : Int, flag c0.p .d = true →
      al = (if a % 16 - v % 16 + c - 1 < 0 then (a % 16 - v % 16 + c - 1 - 6) % 16 - 0x10
            else a % 16 - v % 16 + c - 1) →
      r = (a - a % 16) - (v - v % 16) + al →
      (opSbc c0).a = BitVec.ofInt 8 (if r < 0 then r - 0x60 else r))

/-- What the decimal algorithms of rules R281 and R282 mean on valid operands. -/
def Obligations.DecimalIsDecimal : Prop :=
  (∀ c : Cpu, flag c.p .d = true → isBcd c.a = true → isBcd c.d = true →
    isBcd (opAdc c).a = true ∧
    bcdValue (opAdc c).a + 100 * carryNat (flag (opAdc c).p .c) = bcdValue c.a + bcdValue c.d + carryNat (flag c.p
      .c)) ∧
  (∀ c : Cpu, flag c.p .d = true → isBcd c.a = true → isBcd c.d = true →
    isBcd (opSbc c).a = true ∧
    bcdValue (opSbc c).a + bcdValue c.d + (1 - carryNat (flag c.p .c)) =
      bcdValue c.a + 100 * (1 - carryNat (flag (opSbc c).p .c)))

/-- `cmp8` (rule R283). -/
def Obligations.CompareRule : Prop :=
  ∀ (c : Cpu) (op : Cpu → Cpu) (r : Byte) (t : Int),
    (op, r) ∈ ([(opCmp, c.a), (opCpx, c.x), (opCpy, c.y)] : List ((Cpu → Cpu) × Byte)) →
    t = (r.toNat : Int) - c.d.toNat →
    op c = { c with p := (op c).p } ∧ flag (op c).p .c = decide (0 ≤ t) ∧ (flag (op c).p .c = true ↔ c.d ≤ r) ∧
    flag (op c).p .n = (BitVec.ofInt 8 t).getLsbD 7 ∧ flag (op c).p .z = decide (BitVec.ofInt 8 t = 0) ∧
    OnlyFlags [.n, .z, .c] c.p (op c).p

/-- The shift helpers (rules R300 to R303), as arithmetic. -/
def Obligations.ShiftRule : Prop :=
  ∀ (p v : Byte) (c : Nat), c = carryNat (flag p .c) →
    ((asl8 p v).1.toNat = 2 * v.toNat % 256 ∧ flag (asl8 p v).2 .c = v.getLsbD 7 ∧ OnlyFlags [.c] p (asl8 p v).2) ∧
    ((lsr8 p v).1.toNat = v.toNat / 2 ∧ flag (lsr8 p v).2 .c = v.getLsbD 0 ∧ OnlyFlags [.c] p (lsr8 p v).2) ∧
    ((rol8 p v).1.toNat = (2 * v.toNat + c) % 256 ∧ flag (rol8 p v).2 .c = v.getLsbD 7 ∧
      OnlyFlags [.c] p (rol8 p v).2) ∧
    ((ror8 p v).1.toNat = v.toNat / 2 + 128 * c ∧ flag (ror8 p v).2 .c = v.getLsbD 0 ∧ OnlyFlags [.c] p (ror8 p v).2)

/-- The combined opcodes (rules R370 to R379). -/
def Obligations.CombinedOperations : Prop :=
  ∀ c : Cpu,
    opSlo c = opOra (shiftD asl8 c) ∧ opRla c = opAnd (shiftD rol8 c) ∧ opSre c = opEor (shiftD lsr8 c) ∧
    opRra c = opAdc (shiftD ror8 c) ∧ opDcp c = opCmp (opDec c) ∧ opIsc c = opSbc (opInc c) ∧
    opLax c = opLdx (opLda c) ∧ opAlr c = shiftA lsr8 (opAnd c)

/-- ARR (rule R380). -/
def Obligations.ArrRule : Prop :=
  ∀ (c0 : Cpu) (t r : Byte) (c : Nat), t = c0.a &&& c0.d → c = carryNat (flag c0.p .c) →
    r = BitVec.ofNat 8 ((t.toNat >>> 1) ||| (c <<< 7)) →
    opArr c0 = { c0 with a := (opArr c0).a, p := (opArr c0).p } ∧ OnlyFlags [.n, .v, .z, .c] c0.p (opArr c0).p ∧
    (flag c0.p .d = false →
      (opArr c0).a = r ∧ flag (opArr c0).p .n = r.getLsbD 7 ∧ flag (opArr c0).p .z = decide (r = 0) ∧
      flag (opArr c0).p .c = r.getLsbD 6 ∧ flag (opArr c0).p .v = (r.getLsbD 6 ^^ r.getLsbD 5)) ∧
    (∀ r1 : Byte, flag c0.p .d = true →
      r1 = (if (t.toNat &&& 0x0F) + (t.toNat &&& 0x01) > 5 then (r &&& 0xF0) ||| ((r + 6) &&& 0x0F) else r) →
      flag (opArr c0).p .n = flag c0.p .c ∧ flag (opArr c0).p .z = decide (r = 0) ∧
      flag (opArr c0).p .v = decide ((t ^^^ r) &&& 0x40 ≠ 0) ∧
      flag (opArr c0).p .c = decide ((t.toNat &&& 0xF0) + (t.toNat &&& 0x10) > 0x50) ∧
      (opArr c0).a = (if (t.toNat &&& 0xF0) + (t.toNat &&& 0x10) > 0x50 then r1 + 0x60 else r1))

/-- The undocumented operations that are no plain combination (rules R378, R381 to R385). The two magic
constants have no value. -/
def Obligations.UndocumentedResult : Prop :=
  ∀ (c : Cpu) (r ne lx sb la : Byte), r = c.a &&& c.d → ne = (c.a ||| Config.aneMagic) &&& c.x &&& c.d →
    lx = (c.a ||| Config.lxaMagic) &&& c.d → sb = (c.a &&& c.x) - c.d → la = c.d &&& lo c.sp →
    (opAnc c = { c with a := r, p := (opAnc c).p } ∧ flag (opAnc c).p .c = r.getLsbD 7 ∧
      flag (opAnc c).p .n = r.getLsbD 7 ∧ flag (opAnc c).p .z = decide (r = 0) ∧
      OnlyFlags [.n, .z, .c] c.p (opAnc c).p) ∧
    (opAne c = { c with a := ne, p := (opAne c).p } ∧ TakesNZ c.p (opAne c).p ne) ∧
    (opLxa c = { c with a := lx, x := lx, p := (opLxa c).p } ∧ TakesNZ c.p (opLxa c).p lx) ∧
    (opSbx c = { c with x := sb, p := (opSbx c).p } ∧ flag (opSbx c).p .c = decide (c.d.toNat ≤ (c.a &&& c.x).toNat) ∧
      flag (opSbx c).p .n = sb.getLsbD 7 ∧ flag (opSbx c).p .z = decide (sb = 0) ∧
      OnlyFlags [.n, .z, .c] c.p (opSbx c).p) ∧
    (opLas c = { c with a := la, x := la, sp := setLo c.sp la, p := (opLas c).p } ∧ TakesNZ c.p (opLas c).p la)

/-- `set_irq`, `set_nmi` and their calls (rules R420, R421). -/
def Obligations.SettersRule : Prop :=
  ((∀ c : Cpu, setIrq false c = { c with irqT := .idle } ∧
    (c.irqT = .idle → setIrq true c = { c with irqT := .requested }) ∧ (c.irqT ≠ .idle → setIrq true c = c)) ∧
  (∀ (feed : List Byte) (s : State),
    (systemCycle feed s).cpu = setNmi (nextInput s).nmi (setIrq (nextInput s).irq (s.ticked feed)))) ∧
  ((∀ (c : Cpu) (level : Bool),
    setNmi level c = { c with nmiT := (setNmi level c).nmiT, nmiLine := level } ∧
    (level = true ∧ c.nmiLine = false ∧ c.nmiT = .idle → (setNmi level c).nmiT = .requested) ∧
    (¬(level = true ∧ c.nmiLine = false ∧ c.nmiT = .idle) → (setNmi level c).nmiT = c.nmiT)) ∧
  (∀ (feed : List Byte) (s : State),
    (systemCycle feed s).cpu = setNmi (nextInput s).nmi (setIrq (nextInput s).irq (s.ticked feed)) ∧
    (s.cpu.nmiT ≠ .idle → (systemCycle feed s).cpu.nmiT = .idle → (romAt s.cpu.mcp).tag = .brkVec)) ∧
  (∀ (s : State) (cart : Option CartLines),
    (applyHost (.warmReset cart) s).cpu.nmiT = .idle ∧ (applyHost (.coldReset cart) s).cpu.nmiT = .idle))

/-- The instruction boundary (rules R201 to R205, R425). -/
def Obligations.PollUsesOldMask : Prop :=
  ∀ (s : State) (op : Byte) (rest : List Byte) (c : Cpu), isBoundary s.cpu.mcp = true → (nextInput s).bw = false →
    c = (systemCycle (op :: rest) s).cpu →
    c.p = entryP s.cpu ∧
    (c.brkSrcs &&& srcNmi ≠ 0 ↔ polls s.cpu.mcp = true ∧ s.cpu.nmiT = .usable) ∧
    (c.brkSrcs &&& srcIrq ≠ 0 ↔ polls s.cpu.mcp = true ∧ s.cpu.irqT = .usable ∧ flag s.cpu.p .i = false) ∧
    (c.brkSrcs &&& srcSw ≠ 0 ↔ foundSources s.cpu = 0 ∧ op = 0x00) ∧
    (foundSources s.cpu = 0 → c.ir = op ∧ c.pc = s.cpu.pc + 1 ∧ c.mcp = opcStart op) ∧
    (foundSources s.cpu ≠ 0 → c.ir = 0x00 ∧ c.pc = s.cpu.pc ∧ c.mcp = 185)

/-- The advance of the delay machines and the taken-branch hold (rules R422, R424). -/
def Obligations.BranchHold : Prop :=
  ∀ (feed : List Byte) (s : State), (nextInput s).bw = false →
    ((nextInput s).irq = true → s.cpu.irqT = .requested →
      (systemCycle feed s).cpu.irqT = (if s.cpu.mcp = 203 then .requested else .usable)) ∧
    ((romAt s.cpu.mcp).tag ≠ .brkVec → s.cpu.nmiT = .requested →
      (systemCycle feed s).cpu.nmiT = (if s.cpu.mcp = 203 then .requested else .usable))

/-- The bus arbiter (rules R174, R426) and the cartridge's notification, step 3 of the cycle (rules R46, R97, R172). -/
def Obligations.StallHolds : Prop :=
  (∀ (feed : List Byte) (s t : State), (nextInput s).bw = true → t = systemCycle feed s →
    t.cpu = setLevels (nextInput s).irq (nextInput s).nmi s.cpu ∧ t.trace = s.trace ++ [.withheld] ∧
    ((nextInput s).master = none → t.ram = s.ram) ∧
    (∀ a v, (nextInput s).master = some (a, v) → (s.ram.wf = true → t.ram.read a = v) ∧ OnlyRamAt [a] s t) ∧
    t.ddr = s.ddr ∧ t.pdata = s.pdata ∧
    ((nextInput s).cart = none → t.exrom = s.exrom ∧ t.game = s.game ∧ t.cfg = s.cfg) ∧
    (t.cpu.irqT = .usable → s.cpu.irqT = .usable) ∧ (t.cpu.nmiT = .usable → s.cpu.nmiT = .usable)) ∧
  (∀ (feed : List Byte) (s t : State), t = systemCycle feed s →
    (∀ l, (nextInput s).cart = some l →
      t.exrom = l.exrom ∧ t.game = l.game ∧ t.cfg = cfgOf t.ddr t.pdata l.exrom l.game) ∧
    ((nextInput s).cart = none → t.exrom = s.exrom ∧ t.game = s.game) ∧
    (∀ u, (nextInput s).bw = false → u = cpuCycle feed (nextInput s) s →
      t.ram = u.ram ∧ t.ddr = u.ddr ∧ t.pdata = u.pdata ∧ t.trace = u.trace ∧
      ((nextInput s).cart = none → t.cfg = u.cfg)))

/-- The mode and its table (rules R93 to R95). -/
def Obligations.ModeTable : Prop :=
  (∀ (ddr pdata : Byte) (exrom game : Bool) (bit : Nat → Nat),
    (∀ i, bit i = if ddr.getLsbD i then (if pdata.getLsbD i then 1 else 0) else 1) →
    (cfgOf ddr pdata exrom game).val =
      [0, 0, 1, 2, 0, 3, 4, 5, 0, 6, 7, 8, 0, 3, 9, 10, 11, 11, 11, 11, 11, 11, 11, 11, 0, 6, 7, 12, 0, 3, 9, 13].getD
        (carryNat exrom * 16 + carryNat game * 8 + bit 2 * 4 + bit 1 * 2 + bit 0) 0) ∧
  (∀ k : Fin 14, ∃ ddr pdata exrom game, cfgOf ddr pdata exrom game = k)

/-- Writes under ROM (rule R99). -/
def Obligations.WriteUnderRom : Prop :=
  (∀ (s : State) (a : Addr) (v : Byte), s.cfg ≠ 11 →
    regionOf s.cfg .read a ∈ ([.basic, .kernal, .char, .roml, .romh] : List Region) →
    regionOf s.cfg .write a = .ram ∧ busWrite s a v = { s with ram := s.ram.write a v }) ∧
  (regionOf 13 .read 0xE000 = .kernal ∧ regionOf 13 .write 0xE000 = .ram)

/-- The bank layouts (rule R96), reads of each kind (rules R90, R101, R102, R105, R107), Ultimax writes (rule R98) and the
peripheral router (rules R103, R104). -/
def Obligations.UltimaxAndDevices : Prop :=
  (∀ (k : Fin 14) (a : Addr) (col : Nat),
    col = (if a < 0x1000 then 0 else if a < 0x8000 then 1 else if a < 0xA000 then 2 else if a < 0xC000 then 3
           else if a < 0xD000 then 4 else if a < 0xE000 then 5 else 6) →
    regionOf k .read a = (([
       [.ram, .ram, .ram, .ram, .ram, .ram, .ram], [.ram, .ram, .ram, .romh, .ram, .char, .kernal],
       [.ram, .ram, .roml, .romh, .ram, .char, .kernal], [.ram, .ram, .ram, .ram, .ram, .io, .ram],
       [.ram, .ram, .ram, .romh, .ram, .io, .kernal], [.ram, .ram, .roml, .romh, .ram, .io, .kernal],
       [.ram, .ram, .ram, .ram, .ram, .char, .ram], [.ram, .ram, .ram, .ram, .ram, .char, .kernal],
       [.ram, .ram, .roml, .basic, .ram, .char, .kernal], [.ram, .ram, .ram, .ram, .ram, .io, .kernal],
       [.ram, .ram, .roml, .basic, .ram, .io, .kernal],
       [.ram, .disconnected, .roml, .disconnected, .disconnected, .io, .romh],
       [.ram, .ram, .ram, .basic, .ram, .char, .kernal], [.ram, .ram, .ram, .basic, .ram, .io, .kernal]]
       : List (List Region)).getD k.val []).getD col .ram ∧
    regionOf k .write a = (([
       [.ram, .ram, .ram, .ram, .ram, .ram, .ram], [.ram, .ram, .ram, .ram, .ram, .ram, .ram],
       [.ram, .ram, .ram, .ram, .ram, .ram, .ram], [.ram, .ram, .ram, .ram, .ram, .io, .ram],
       [.ram, .ram, .ram, .ram, .ram, .io, .ram], [.ram, .ram, .ram, .ram, .ram, .io, .ram],
       [.ram, .ram, .ram, .ram, .ram, .ram, .ram], [.ram, .ram, .ram, .ram, .ram, .ram, .ram],
       [.ram, .ram, .ram, .ram, .ram, .ram, .ram], [.ram, .ram, .ram, .ram, .ram, .io, .ram],
       [.ram, .ram, .ram, .ram, .ram, .io, .ram],
       [.ram, .disconnected, .roml, .disconnected, .disconnected, .io, .romh],
       [.ram, .ram, .ram, .ram, .ram, .ram, .ram], [.ram, .ram, .ram, .ram, .ram, .io, .ram]]
       : List (List Region)).getD k.val []).getD col .ram) ∧
  (∀ (s : State) (c : CycleInput) (a : Addr) (r : Region), regionOf s.cfg .read a = r →
    (r = .basic → 0xA000 ≤ a ∧ a ≤ 0xBFFF ∧ busRead s c a = Config.romBasic (BitVec.ofNat 13 (a.toNat - 0xA000))) ∧
    (r = .kernal → 0xE000 ≤ a ∧ busRead s c a = Config.romKernal (BitVec.ofNat 13 (a.toNat - 0xE000))) ∧
    (r = .char → 0xD000 ≤ a ∧ a ≤ 0xDFFF ∧ busRead s c a = Config.romChar (BitVec.ofNat 12 (a.toNat - 0xD000))) ∧
    (r ∈ ([.roml, .romh, .io, .disconnected] : List Region) → busRead s c a = c.answer) ∧
    (r ∈ ([.roml, .romh, .disconnected, .basic, .kernal, .char] : List Region) → target s .read a = .region r)) ∧
  (∀ (s : State) (a : Addr) (v : Byte), s.cfg = 11 →
    ((0x8000 ≤ a ∧ a ≤ 0x9FFF) → target s .write a = .region .roml ∧ busWrite s a v = s) ∧
    (0xE000 ≤ a → target s .write a = .region .romh ∧ busWrite s a v = s) ∧
    ((0x1000 ≤ a ∧ a ≤ 0x7FFF) ∨ (0xA000 ≤ a ∧ a ≤ 0xCFFF) → target s .write a = .region .disconnected ∧
      busWrite s a v = s)) ∧
  (∀ (s : State) (dir : Dir) (a : Addr) (v : Byte) (d : Device), regionOf s.cfg dir a = .io →
    d = (if a < 0xD400 then .videoChip else if a < 0xD800 then .soundChip else if a < 0xDC00 then .colorMemory
         else if a < 0xDD00 then .timerChip1 else if a < 0xDE00 then .timerChip2 else if a < 0xDF00 then .cartIo1
         else .cartIo2) →
    0xD000 ≤ a ∧ a ≤ 0xDFFF ∧ target s dir a = .device d ∧ (dir = .write → busWrite s a v = s))

/-- Port access (rule R92), with the synchronous recompute. -/
def Obligations.PortRule : Prop :=
  ∀ (s : State) (c : CycleInput) (v : Byte),
    busRead s c 0x0000 = s.ddr ∧
    (∀ k, k < 8 → (busRead s c 0x0001).getLsbD k =
      if s.ddr.getLsbD k then s.pdata.getLsbD k else (decide (k < 3) || c.pins.getLsbD (k - 3))) ∧
    busWrite s 0x0000 v = { s with ddr := v, cfg := cfgOf v s.pdata s.exrom s.game } ∧
    busWrite s 0x0001 v = { s with pdata := v, cfg := cfgOf s.ddr v s.exrom s.game }

/-- RAM (rule R100). -/
def Obligations.RamRule : Prop :=
  ∀ (s : State) (c : CycleInput) (a : Addr) (v : Byte), s.ram.wf = true → isPort a = false →
    (regionOf s.cfg .read a = .ram → busRead s c a = s.ram.read a) ∧
    (regionOf s.cfg .write a = .ram → ∃ m : Memory, busWrite s a v = { s with ram := m } ∧ m.read a = v ∧
      (∀ b, b ≠ a → m.read b = s.ram.read b))

/-- The canonical form of the byte stores: the model's choice (log entry 5), no rule of the spec. -/
def Obligations.StoresThatReadAlikeAreEqual : Prop :=
  ∀ m n : Memory, m.wf = true → n.wf = true → (∀ a, m.read a = n.read a) → m = n

/-- `resume()` (rule R451), on either system (rule R455). The model's choices: a no-op when not halted and the step that
ends with the operation (log entry 20, decision D18), and its own fields `trace` and `clock` (log entries 18, 19). -/
def Obligations.ResumeRule : Prop :=
  (∀ (s : State) (rest : List Event), s.inputs = .host .resume :: rest →
    step s = .next
      { s with cpu := { s.cpu with mcp := if isHalted s.cpu.mcp then 207 else s.cpu.mcp }, inputs := rest,
               clock := s.clock + 1, trace := [], drive := { s.drive with trace := [] } }) ∧
  (∀ (s : State) (rest : List Event), s.inputs = .host .driveResume :: rest →
    step s = .next
      { s with inputs := rest, clock := s.clock + 1, trace := [],
               drive := { s.drive with
                 cpu := { s.drive.cpu with mcp := if isHalted s.drive.cpu.mcp then 207 else s.drive.cpu.mcp },
                 trace := [] } }) ∧
  romAt 207 = ⟨.pc, .ir, .read, true, .dispatch⟩ ∧ isBoundary 207 = true ∧ polls 207 = true

/-- `warm_reset()` (rule R471). The model's choices: the step ends with the operation (log entry 20), the traces are
emptied and the clock advances (log entries 18, 19). -/
def Obligations.WarmResetRule : Prop :=
  ∀ (s : State) (rest : List Event) (cart : Option CartLines) (exrom game : Bool),
    s.inputs = .host (.warmReset cart) :: rest →
    exrom = (match cart with | some l => l.exrom | none => s.exrom) →
    game = (match cart with | some l => l.game | none => s.game) →
    step s = .next
      { s with cpu := { s.cpu with p := s.cpu.p ||| 0x34, nmiT := .idle, irqT := .idle, brkSrcs := 0, mcp := 208 },
               ddr := 0x00, pdata := 0x00, exrom := exrom, game := game, cfg := cfgOf 0x00 0x00 exrom game,
               inputs := rest, clock := s.clock + 1, trace := [], drive := { s.drive with trace := [] } } ∧
    isHalted 208 = false

/-- `cold_reset()` and the resets of the secondary system (rules R470, R471, R475). The model's choices: the canonical form
of RAM (log entry 5), the free draws (log entry 6), the step that ends with the operation and the fields `trace` and
`clock` (log entries 18 to 20). -/
def Obligations.ColdResetRule : Prop :=
  (∀ (s : State) (rest : List Event) (cart : Option CartLines), s.inputs = .host (.coldReset cart) :: rest →
    ∃ t, step s = .next t ∧ t.cpu.zpa = 0x0000 ∧ hi t.cpu.sp = 0x01 ∧ flag t.cpu.p .i = true ∧ flag t.cpu.p .u = true ∧
      flag t.cpu.p .b = true ∧ t.cpu.mcp = 208 ∧ t.cpu.nmiT = .idle ∧ t.cpu.irqT = .idle ∧ t.cpu.nmiLine = false ∧
      t.cpu.brkSrcs = 0 ∧ t.secCnt = 0 ∧ t.ddr = 0x00 ∧ t.pdata = 0x00 ∧ t.cfg = cfgOf 0x00 0x00 t.exrom t.game ∧
      (cart = none → t.exrom = true ∧ t.game = true ∧ t.cfg = 13) ∧
      (∀ l, cart = some l → t.exrom = l.exrom ∧ t.game = l.game) ∧ t.ram.wf = true ∧ t.drive.cpu = s.drive.cpu ∧
      t.drive.ram = s.drive.ram ∧ t.inputs = rest) ∧
  (∀ (s : State) (rest : List Event) (op : HostOp), op = .driveColdReset ∨ op = .driveWarmReset →
    s.inputs = .host op :: rest →
    ∃ t, step s = .next t ∧ t.drive.cpu.mcp = 208 ∧ flag t.drive.cpu.p .i = true ∧ flag t.drive.cpu.p .u = true ∧
      flag t.drive.cpu.p .b = true ∧ t.drive.cpu.nmiT = .idle ∧ t.drive.cpu.irqT = .idle ∧ t.drive.cpu.brkSrcs = 0 ∧
      (op = .driveColdReset → t.drive.cpu.zpa = 0x0000 ∧ hi t.drive.cpu.sp = 0x01 ∧ t.drive.cpu.nmiLine = false ∧
        t.drive.ram.wf = true) ∧
      (op = .driveWarmReset →
        t.drive.cpu = { s.drive.cpu with p := s.drive.cpu.p ||| 0x34, nmiT := .idle, irqT := .idle, brkSrcs := 0,
                                         mcp := 208 } ∧
        t.drive.ram = s.drive.ram) ∧
      t.cpu = s.cpu ∧ SameMemory t s ∧ t.secCnt = s.secCnt ∧ t.inputs = rest)

/-- The tick ratio (rule R456) and the secondary cycle (rules R455, R457). The secondary system's trace, the model's own (log
entry 18), has one event for each of its cycles; a write to its ROM is dropped (log entry 14). -/
def Obligations.SecondaryRatio : Prop :=
  (∀ (feed : List Byte) (s : State),
    (systemCycle feed s).secCnt.val = (s.secCnt.val + 1) % 68 ∧
    (systemCycle feed s).drive = if s.secCnt.val + 1 = 68 then s.drive else driveCycle (nextInput s) s.drive) ∧
  (∀ (s : State), ((systemCycle [])^[68] s).secCnt = s.secCnt ∧
    ((systemCycle [])^[68] s).drive.trace.length = s.drive.trace.length + 67) ∧
  (∀ (c : CycleInput) (d e : Drive) (r : MicroOp) (a : Addr) (kind : DriveKind), e = driveCycle c d →
    r = romAt d.cpu.mcp → a = d.cpu.view r.ar → kind = Config.driveMap (BitVec.ofNat 6 (a.toNat / 1024)) →
    (∀ b, r.rw = .read →
      b = (match kind with
           | .rom => Config.driveRom a
           | .ram => d.ram.read (Config.driveRamCell a)
           | .chip1 => c.driveAnswer
           | .chip2 => c.driveAnswer) →
      e.cpu = setLevels c.driveIrq c.driveNmi (tick (d.cpu.setCell r.dr b)) ∧ e.ram = d.ram ∧
      e.trace.map BusEvent.transfer = d.trace.map BusEvent.transfer ++ [some (a, .read, b)]) ∧
    (r.rw = .write →
      e.cpu = setLevels c.driveIrq c.driveNmi (tick d.cpu) ∧
      (∀ x, d.ram.wf = true ∨ x ≠ Config.driveRamCell a →
        e.ram.read x = if kind = .ram ∧ x = Config.driveRamCell a then d.cpu.cell r.dr else d.ram.read x) ∧
      (kind = .ram ∨ e.ram = d.ram) ∧
      e.trace.map BusEvent.transfer = d.trace.map BusEvent.transfer ++ [some (a, .write, d.cpu.cell r.dr)]))

/-- Snapshot and restore (rules R53, R491). -/
def Obligations.SnapshotRestore : Prop :=
  ∀ (s u : State), s.cfg = cfgOf s.ddr s.pdata s.exrom s.game →
    restoreSnapshot (takeSnapshot s) u =
      { s with drive := u.drive, inputs := u.inputs, clock := u.clock, trace := u.trace } ∧
    (u.drive = s.drive → u.inputs = s.inputs → u.clock = s.clock → u.trace = s.trace →
      step (restoreSnapshot (takeSnapshot s) u) = step s)
end

