-- ==== Sys2Proof/Laws/Behaviour.lean ====
section
/-! SUPPORT. What the opcode behaviours can change (spec/40_engine.md rules R176 to R178): the data registers, `P`, `D`
and `SPL` only; and the two store behaviours in one record update each. -/

namespace Sys2Proof.Machine

/-- `do_op` writes `A`, `X`, `Y`, `P`, `D` and `SP` only. -/
theorem doOp_frame (c : Cpu) :
    doOp c = { c with a := (doOp c).a, x := (doOp c).x, y := (doOp c).y, p := (doOp c).p, d := (doOp c).d,
                      sp := (doOp c).sp } := by
  unfold doOp
  by_cases h : modeOf c.ir = .acc
  · simp only [h, if_true]
    cases mnemonicOf c.ir <;> rfl
  · simp only [h, if_false]
    cases mnemonicOf c.ir <;> rfl

@[simp] theorem doOp_pc (c : Cpu) : (doOp c).pc = c.pc := by rw [doOp_frame]
@[simp] theorem doOp_mcp (c : Cpu) : (doOp c).mcp = c.mcp := by rw [doOp_frame]
@[simp] theorem doOp_ir (c : Cpu) : (doOp c).ir = c.ir := by rw [doOp_frame]
@[simp] theorem doOp_zpa (c : Cpu) : (doOp c).zpa = c.zpa := by rw [doOp_frame]
@[simp] theorem doOp_a1 (c : Cpu) : (doOp c).a1 = c.a1 := by rw [doOp_frame]
@[simp] theorem doOp_a2 (c : Cpu) : (doOp c).a2 = c.a2 := by rw [doOp_frame]
@[simp] theorem doOp_a3 (c : Cpu) : (doOp c).a3 = c.a3 := by rw [doOp_frame]
@[simp] theorem doOp_a4 (c : Cpu) : (doOp c).a4 = c.a4 := by rw [doOp_frame]
@[simp] theorem doOp_nmiT (c : Cpu) : (doOp c).nmiT = c.nmiT := by rw [doOp_frame]
@[simp] theorem doOp_irqT (c : Cpu) : (doOp c).irqT = c.irqT := by rw [doOp_frame]
@[simp] theorem doOp_nmiLine (c : Cpu) : (doOp c).nmiLine = c.nmiLine := by rw [doOp_frame]
@[simp] theorem doOp_brkSrcs (c : Cpu) : (doOp c).brkSrcs = c.brkSrcs := by rw [doOp_frame]

/-- `st_reg` in one record update (rule R177). -/
theorem stReg_eq {c : Cpu} {v : Byte} (h : storeValue c = some v) : stReg c = { c with d := v } := by
  unfold stReg
  rw [h]

/-- `st_sh` in one record update (rule R178). -/
theorem stSh_eq {c : Cpu} {r : Byte} (h : shRegister c = some r) :
    stSh c = { c with sp := (if mnemonicOf c.ir = .tas then setLo c.sp (c.a &&& c.x) else c.sp), d := r &&& (hi c.a1 + 1),
                      a2 := (if hi c.a2 = hi c.a1 then c.a2 else setHi c.a2 (r &&& (hi c.a1 + 1))) } := by
  unfold stSh
  rw [h]
  by_cases ht : mnemonicOf c.ir = .tas <;> by_cases ha : hi c.a2 = hi c.a1 <;> simp [ht, ha, Cpu.setS]

end Sys2Proof.Machine
end

