-- ==== Sys2Proof/Laws/Bits.lean ====
section
/-! SUPPORT. The halves of a 16-bit register (spec/10_state.md rule R22) and the flags of `P` (rule R30): reading after
writing. -/

namespace Sys2Proof.Machine

/-- The bits of a pair: the low byte's, then the high byte's. -/
theorem getLsbD_pair (h l : Byte) (i : Nat) :
    (pair h l).getLsbD i = if i < 8 then l.getLsbD i else h.getLsbD (i - 8) := by
  have := BitVec.getLsbD_append (x := h) (y := l) (i := i)
  simpa [pair] using this

@[simp] theorem lo_pair (h l : Byte) : lo (pair h l) = l := by
  apply BitVec.eq_of_getLsbD_eq
  intro i hi
  simp [lo, getLsbD_pair, hi]

@[simp] theorem hi_pair (h l : Byte) : hi (pair h l) = h := by
  apply BitVec.eq_of_getLsbD_eq
  intro i hi'
  simp [hi, getLsbD_pair, hi']

@[simp] theorem pair_hi_lo (v : Addr) : pair (hi v) (lo v) = v := by
  apply BitVec.eq_of_getLsbD_eq
  intro i hi'
  rw [getLsbD_pair]
  by_cases h : i < 8
  · simp [h, lo]
  · have h8 : i - 8 < 8 := by omega
    have h9 : 8 + (i - 8) = i := by omega
    simp [h, hi, h8, h9]

@[simp] theorem lo_setLo (v : Addr) (b : Byte) : lo (setLo v b) = b := lo_pair _ _
@[simp] theorem hi_setLo (v : Addr) (b : Byte) : hi (setLo v b) = hi v := hi_pair _ _
@[simp] theorem lo_setHi (v : Addr) (b : Byte) : lo (setHi v b) = lo v := lo_pair _ _
@[simp] theorem hi_setHi (v : Addr) (b : Byte) : hi (setHi v b) = b := hi_pair _ _
@[simp] theorem setLo_setLo (v : Addr) (a b : Byte) : setLo (setLo v a) b = setLo v b := by simp [setLo]
@[simp] theorem setHi_setLo (v : Addr) (a b : Byte) : setHi (setLo v a) b = pair b a := by simp [setHi]
@[simp] theorem setLo_setHi (v : Addr) (a b : Byte) : setLo (setHi v a) b = pair a b := by simp [setLo]
@[simp] theorem setLo_pair (h l b : Byte) : setLo (pair h l) b = pair h b := by simp [setLo]
@[simp] theorem setHi_pair (h l b : Byte) : setHi (pair h l) b = pair b l := by simp [setHi]

theorem zext16_eq_pair (b : Byte) : zext16 b = pair 0x00 b := by
  apply BitVec.eq_of_getLsbD_eq
  intro i hi
  rw [getLsbD_pair]
  by_cases h : i < 8
  · simp [zext16, h, hi]
  · have : b.getLsbD i = false := BitVec.getLsbD_of_ge b i (by omega)
    simp [zext16, h, BitVec.getLsbD_setWidth, this]

@[simp] theorem lo_zext16 (b : Byte) : lo (zext16 b) = b := by rw [zext16_eq_pair, lo_pair]
@[simp] theorem hi_zext16 (b : Byte) : hi (zext16 b) = 0x00 := by rw [zext16_eq_pair, hi_pair]
@[simp] theorem setLo_zext16 (a b : Byte) : setLo (zext16 a) b = zext16 b := by
  simp [zext16_eq_pair]

/-- Writing the low half of an address in page 0. -/
theorem setLo_of_page0 {v : Addr} (h : hi v = 0x00) (b : Byte) : setLo v b = zext16 b := by
  simp [setLo, h, zext16_eq_pair]

/-- A 16-bit value is its two halves. -/
theorem addr_ext {v w : Addr} (hl : lo v = lo w) (hh : hi v = hi w) : v = w := by
  rw [← pair_hi_lo v, ← pair_hi_lo w, hl, hh]

end Sys2Proof.Machine
end

