-- ==== Sys2Proof/Laws/Cycle.lean ====
section
/-! SUPPORT. What one quiet system cycle does (spec/40_engine.md rules R172, R173), and how a run is unrolled cycle by
cycle. The run of an instruction is a chain of these lemmas. -/

namespace Sys2Proof.Machine

/-- The memory side decides what a read returns. -/
theorem busRead_of_sameMemory {t u : State} (h : SameMemory t u) (c : CycleInput) (a : Addr) :
    busRead t c a = busRead u c a := by
  obtain ⟨h1, h2, h3, -, -, h6⟩ := h
  simp only [busRead, portRead, regionOf, h2, h3, h6]
  split
  · rfl
  · generalize ((layoutOf u.cfg).block (a.toNat / 4096)).1 = r
    cases r <;> simp [regionRead, h1]

/-- The memory side after a write depends on the memory side before it. -/
theorem sameMemory_busWrite {t u : State} (h : SameMemory t u) (a : Addr) (v : Byte) :
    SameMemory (busWrite t a v) (busWrite u a v) := by
  obtain ⟨h1, h2, h3, h4, h5, h6⟩ := h
  unfold busWrite portWrite
  rw [h6]
  split
  · split <;> constructor <;> simp [recompute, *]
  · cases hr : regionOf u.cfg .write a <;> constructor <;> simp [regionWrite, *]

theorem SameMemory.refl (s : State) : SameMemory s s := ⟨rfl, rfl, rfl, rfl, rfl, rfl⟩

theorem SameMemory.trans {s t u : State} (h : SameMemory s t) (k : SameMemory t u) : SameMemory s u :=
  ⟨h.1.trans k.1, h.2.trans k.2, h.3.trans k.3, h.4.trans k.4, h.5.trans k.5, h.6.trans k.6⟩

/-- The setters of a quiet cycle drop the IRQ machine and the remembered NMI level. -/
@[simp] theorem setLevels_quiet (c : Cpu) :
    setLevels false false c = { c with irqT := .idle, nmiLine := false } := by
  simp [setLevels, setIrq, setNmi]

@[simp] theorem busWrite_cpu (s : State) (a : Addr) (v : Byte) : (busWrite s a v).cpu = s.cpu := by
  unfold busWrite portWrite
  split
  · split <;> rfl
  · cases regionOf s.cfg .write a <;> rfl

@[simp] theorem busWrite_trace (s : State) (a : Addr) (v : Byte) : (busWrite s a v).trace = s.trace := by
  unfold busWrite portWrite
  split
  · split <;> rfl
  · cases regionOf s.cfg .write a <;> rfl

@[simp] theorem busWrite_clock (s : State) (a : Addr) (v : Byte) : (busWrite s a v).clock = s.clock := by
  unfold busWrite portWrite
  split
  · split <;> rfl
  · cases regionOf s.cfg .write a <;> rfl

@[simp] theorem busWrite_inputs (s : State) (a : Addr) (v : Byte) : (busWrite s a v).inputs = s.inputs := by
  unfold busWrite portWrite
  split
  · split <;> rfl
  · cases regionOf s.cfg .write a <;> rfl

@[simp] theorem busWrite_secCnt (s : State) (a : Addr) (v : Byte) : (busWrite s a v).secCnt = s.secCnt := by
  unfold busWrite portWrite
  split
  · split <;> rfl
  · cases regionOf s.cfg .write a <;> rfl

@[simp] theorem busWrite_drive (s : State) (a : Addr) (v : Byte) : (busWrite s a v).drive = s.drive := by
  unfold busWrite portWrite
  split
  · split <;> rfl
  · cases regionOf s.cfg .write a <;> rfl

/-- The secondary step touches the counter and the secondary system only (rule R456). -/
theorem secondaryStep_eq (c : CycleInput) (s : State) :
    ∃ d, secondaryStep c s =
      { s with secCnt := ⟨(s.secCnt.val + 1) % Config.secDen, Nat.mod_lt _ (by decide)⟩, drive := d } := by
  unfold secondaryStep
  split
  · rename_i h
    exact ⟨driveCycle c s.drive, by simp [Nat.mod_eq_of_lt h]⟩
  · rename_i h
    have : s.secCnt.val + 1 = Config.secDen := by have := s.secCnt.isLt; omega
    exact ⟨s.drive, by simp [this]⟩

/-- A quiet cycle: the transaction and the tick, both setters with level 0, the secondary step, the clock. -/
theorem systemCycle_quiet (feed : List Byte) {t : State} (h : t.inputs = []) :
    ∃ d, systemCycle feed t =
      { cpuCycle feed (quietInput t.clock) t with
          cpu := setLevels false false (cpuCycle feed (quietInput t.clock) t).cpu,
          secCnt := ⟨((cpuCycle feed (quietInput t.clock) t).secCnt.val + 1) % Config.secDen, Nat.mod_lt _ (by decide)⟩,
          drive := d, clock := (cpuCycle feed (quietInput t.clock) t).clock + 1 } := by
  have hn : nextInput t = quietInput t.clock := by unfold nextInput; rw [h]
  have ht : { t with inputs := restInputs t.inputs } = t := by cases t; simp_all [restInputs]
  obtain ⟨d, hd⟩ := secondaryStep_eq (quietInput t.clock)
    { cpuCycle feed (quietInput t.clock) t with
        cpu := setLevels false false (cpuCycle feed (quietInput t.clock) t).cpu }
  refine ⟨d, ?_⟩
  have : systemCycle feed t = { (secondaryStep (quietInput t.clock)
      { cpuCycle feed (quietInput t.clock) t with
          cpu := setLevels false false (cpuCycle feed (quietInput t.clock) t).cpu }) with
      clock := (secondaryStep (quietInput t.clock)
        { cpuCycle feed (quietInput t.clock) t with
            cpu := setLevels false false (cpuCycle feed (quietInput t.clock) t).cpu }).clock + 1 } := by
    unfold systemCycle
    simp only [hn, ht]
    rfl
  rw [this, hd]

/-- A quiet cycle whose record reads (rule R172). -/
theorem Ends.read {s t : State} {c : Cpu} {m : State} {bus : List Transfer} (h : Ends s t c m bus)
    (feed : List Byte) {ar : View} {dr : Cell} {inc : Bool} {tag : Tag} {b : Byte}
    (hm : romAt c.mcp = ⟨ar, dr, .read, inc, tag⟩)
    (hb : readByte feed ⟨ar, dr, .read, inc, tag⟩ m (quietInput (s.clock + bus.length)) (c.view ar) = b) :
    Ends s (systemCycle feed t) (setLevels false false (tick (c.setCell dr b))) m
      (bus ++ [(c.view ar, .read, b)]) := by
  obtain ⟨hc, hmem, htr, hcl, hin, hr⟩ := h
  have hread : readByte feed ⟨ar, dr, .read, inc, tag⟩ t (quietInput t.clock) (c.view ar) = b := by
    rw [← hb, hcl]
    unfold readByte
    split
    · rfl
    · exact busRead_of_sameMemory hmem _ _
  obtain ⟨d, hd⟩ := systemCycle_quiet feed hin
  have hcyc : cpuCycle feed (quietInput t.clock) t =
      { t with cpu := tick (c.setCell dr b),
               trace := t.trace ++ [BusEvent.access (c.view ar) .read b (target t .read (c.view ar))
                 (isStreamRead ⟨ar, dr, .read, inc, tag⟩)] } := by
    simp only [cpuCycle, transact, hc, hm, hread]
  rw [hd, hcyc]
  refine ⟨rfl, ⟨hmem.1, hmem.2, hmem.3, hmem.4, hmem.5, hmem.6⟩, ?_, ?_, hin, ?_⟩
  · simp [htr, BusEvent.transfer]
  · simp [hcl]; omega
  · simp [hr, Nat.add_assoc]

/-- A quiet cycle whose record writes (rule R172). -/
theorem Ends.write {s t : State} {c : Cpu} {m : State} {bus : List Transfer} (h : Ends s t c m bus)
    (feed : List Byte) {ar : View} {dr : Cell} {inc : Bool} {tag : Tag}
    (hm : romAt c.mcp = ⟨ar, dr, .write, inc, tag⟩) :
    Ends s (systemCycle feed t) (setLevels false false (tick c)) (busWrite m (c.view ar) (c.cell dr))
      (bus ++ [(c.view ar, .write, c.cell dr)]) := by
  obtain ⟨hc, hmem, htr, hcl, hin, hr⟩ := h
  obtain ⟨d, hd⟩ := systemCycle_quiet feed hin
  have hcyc : cpuCycle feed (quietInput t.clock) t =
      { busWrite t (c.view ar) (c.cell dr) with
          cpu := tick c,
          trace := t.trace ++ [BusEvent.access (c.view ar) .write (c.cell dr) (target t .write (c.view ar)) false] } := by
    simp only [cpuCycle, transact, hc, hm, busWrite_cpu]
  have hw := sameMemory_busWrite hmem (c.view ar) (c.cell dr)
  rw [hd, hcyc]
  refine ⟨rfl, ⟨hw.1, hw.2, hw.3, hw.4, hw.5, hw.6⟩, ?_, ?_, ?_, ?_⟩
  · simp [htr, BusEvent.transfer]
  · simp [hcl]; omega
  · simp [hin]
  · simp [hr, Nat.add_assoc]

/-- A quiet run of one more cycle that does not end at a boundary or in the halt slot. -/
theorem runCycles_continue (fuel : Nat) (feed : List Byte) {t : State} (h : t.inputs = [])
    (hb : isBoundary (systemCycle feed t).cpu.mcp = false) (hh : isHalted (systemCycle feed t).cpu.mcp = false) :
    runCycles (fuel + 1) feed t =
      runCycles fuel (feedAfter feed (romAt t.cpu.mcp)) (systemCycle feed t) := by
  have hn : nextInput t = quietInput t.clock := by unfold nextInput; rw [h]
  rw [runCycles]
  simp only [h, hb, hh, Bool.or_self, Bool.and_false, Bool.false_eq_true, if_false, feedAfterCycle, hn]
  rfl

/-- A quiet run ends in the cycle that reaches a boundary or the halt slot. -/
theorem runCycles_end (fuel : Nat) (feed : List Byte) {t : State} (h : t.inputs = [])
    (hb : (isBoundary (systemCycle feed t).cpu.mcp || isHalted (systemCycle feed t).cpu.mcp) = true) :
    runCycles (fuel + 1) feed t = systemCycle feed t := by
  have hn : nextInput t = quietInput t.clock := by unfold nextInput; rw [h]
  rw [runCycles]
  simp only [h, hb, hn, Bool.and_true]
  rfl

/-- The start of a step: no cycle run, nothing recorded. -/
theorem Ends.start {s : State} (h : s.inputs = []) : Ends s (clearTrace s) s.cpu s [] :=
  ⟨rfl, ⟨rfl, rfl, rfl, rfl, rfl, rfl⟩, rfl, rfl, h, by simp [clearTrace, Nat.mod_eq_of_lt s.secCnt.isLt]⟩

/-- An engine that a quiet cycle's delay machines and setters leave as it is. -/
structure Cpu.Settled (c : Cpu) : Prop where
  nmi : c.nmiT.advance = c.nmiT
  irq : c.irqT = .idle
  line : c.nmiLine = false

theorem Cpu.Settled.doOp {c : Cpu} (h : c.Settled) : (doOp c).Settled :=
  ⟨by rw [doOp_nmiT]; exact h.nmi, by rw [doOp_irqT]; exact h.irq, by rw [doOp_nmiLine]; exact h.line⟩

/-- The tick and the setters of a quiet cycle, when they leave a settled engine. -/
theorem tick_settled {c c2 : Cpu} {m : MicroOp} (hm : romAt c.mcp = m) (hc : tagAction m.tag (retire m c) = c2)
    (hs : c2.Settled) : setLevels false false (tick c) = c2 := by
  obtain ⟨h1, h2, h3⟩ := hs
  have h : tick c = c2 ∨ tick c = advanceDelays c2 := by
    unfold tick
    rw [hm]
    simp only [hc]
    split
    · exact .inl rfl
    · exact .inr rfl
  rw [setLevels_quiet]
  rcases h with h | h <;> rw [h]
  · simp [← h2, ← h3]
  · simp [advanceDelays, h1, ← h2, ← h3]

/-- A run goes on after a quiet read cycle that leaves the settled engine `c2`, off a boundary and not halted. -/
theorem Ends.thenRead {s t : State} {c : Cpu} {m : State} {bus : List Transfer} (h : Ends s t c m bus)
    {fuel : Nat} {feed : List Byte} {ar : View} {dr : Cell} {inc : Bool} {tag : Tag} (b : Byte) (c2 : Cpu)
    {mf : State} {cf : Cpu} {bf : List Transfer}
    (hm : romAt c.mcp = ⟨ar, dr, .read, inc, tag⟩)
    (hb : readByte feed ⟨ar, dr, .read, inc, tag⟩ m (quietInput (s.clock + bus.length)) (c.view ar) = b)
    (hc : tagAction tag (retire ⟨ar, dr, .read, inc, tag⟩ (c.setCell dr b)) = c2) (hs : c2.Settled)
    (hn : (isBoundary c2.mcp || isHalted c2.mcp) = false)
    (k : ∀ t2, Ends s t2 c2 m (bus ++ [(c.view ar, .read, b)]) →
      Ends s (runCycles fuel (feedAfter feed ⟨ar, dr, .read, inc, tag⟩) t2) cf mf bf) :
    Ends s (runCycles (fuel + 1) feed t) cf mf bf := by
  have hmcp : (c.setCell dr b).mcp = c.mcp := by cases dr <;> rfl
  have h2 := h.read feed hm hb
  rw [tick_settled (hmcp ▸ hm) hc hs] at h2
  have hn2 : (isBoundary (systemCycle feed t).cpu.mcp || isHalted (systemCycle feed t).cpu.mcp) = false := by
    rw [h2.cpu]; exact hn
  rw [Bool.or_eq_false_iff] at hn2
  rw [runCycles_continue fuel feed h.inputs hn2.1 hn2.2, h.cpu, hm]
  exact k _ h2

/-- A run goes on after a quiet write cycle. -/
theorem Ends.thenWrite {s t : State} {c : Cpu} {m : State} {bus : List Transfer} (h : Ends s t c m bus)
    {fuel : Nat} {feed : List Byte} {ar : View} {dr : Cell} {inc : Bool} {tag : Tag} (c2 : Cpu)
    {mf : State} {cf : Cpu} {bf : List Transfer}
    (hm : romAt c.mcp = ⟨ar, dr, .write, inc, tag⟩)
    (hc : tagAction tag (retire ⟨ar, dr, .write, inc, tag⟩ c) = c2) (hs : c2.Settled)
    (hn : (isBoundary c2.mcp || isHalted c2.mcp) = false)
    (k : ∀ t2, Ends s t2 c2 (busWrite m (c.view ar) (c.cell dr)) (bus ++ [(c.view ar, .write, c.cell dr)]) →
      Ends s (runCycles fuel feed t2) cf mf bf) :
    Ends s (runCycles (fuel + 1) feed t) cf mf bf := by
  have h2 := h.write feed hm
  rw [tick_settled hm hc hs] at h2
  have hn2 : (isBoundary (systemCycle feed t).cpu.mcp || isHalted (systemCycle feed t).cpu.mcp) = false := by
    rw [h2.cpu]; exact hn
  rw [Bool.or_eq_false_iff] at hn2
  rw [runCycles_continue fuel feed h.inputs hn2.1 hn2.2, h.cpu, hm]
  simpa [feedAfter, isStreamRead] using k _ h2

/-- A run ends with a quiet read cycle that leaves the engine at a boundary or halted. -/
theorem Ends.lastRead {s t : State} {c : Cpu} {m : State} {bus : List Transfer} (h : Ends s t c m bus)
    {fuel : Nat} {feed : List Byte} {ar : View} {dr : Cell} {inc : Bool} {tag : Tag} (b : Byte) (c2 : Cpu)
    (hm : romAt c.mcp = ⟨ar, dr, .read, inc, tag⟩)
    (hb : readByte feed ⟨ar, dr, .read, inc, tag⟩ m (quietInput (s.clock + bus.length)) (c.view ar) = b)
    (hc : tagAction tag (retire ⟨ar, dr, .read, inc, tag⟩ (c.setCell dr b)) = c2) (hs : c2.Settled)
    (hn : (isBoundary c2.mcp || isHalted c2.mcp) = true) :
    Ends s (runCycles (fuel + 1) feed t) c2 m (bus ++ [(c.view ar, .read, b)]) := by
  have hmcp : (c.setCell dr b).mcp = c.mcp := by cases dr <;> rfl
  have h2 := h.read feed hm hb
  rw [tick_settled (hmcp ▸ hm) hc hs] at h2
  rw [runCycles_end fuel feed h.inputs (by rw [h2.cpu]; exact hn)]
  exact h2

/-- A run ends with a quiet write cycle that leaves the engine at a boundary or halted. -/
theorem Ends.lastWrite {s t : State} {c : Cpu} {m : State} {bus : List Transfer} (h : Ends s t c m bus)
    {fuel : Nat} {feed : List Byte} {ar : View} {dr : Cell} {inc : Bool} {tag : Tag} (c2 : Cpu)
    (hm : romAt c.mcp = ⟨ar, dr, .write, inc, tag⟩)
    (hc : tagAction tag (retire ⟨ar, dr, .write, inc, tag⟩ c) = c2) (hs : c2.Settled)
    (hn : (isBoundary c2.mcp || isHalted c2.mcp) = true) :
    Ends s (runCycles (fuel + 1) feed t) c2 (busWrite m (c.view ar) (c.cell dr))
      (bus ++ [(c.view ar, .write, c.cell dr)]) := by
  have h2 := h.write feed hm
  rw [tick_settled hm hc hs] at h2
  rw [runCycles_end fuel feed h.inputs (by rw [h2.cpu]; exact hn)]
  exact h2

@[simp] theorem advance_advance (d : Delay) : d.advance.advance = d.advance := by cases d <;> rfl

/-- A boundary's record reads the opcode at `PC` into `IR` (rule R230). -/
theorem romAt_boundary : ∀ m : Cursor, isBoundary m = true →
    romAt m = ⟨.pc, .ir, .read, true, (romAt m).tag⟩ := by decide +kernel

/-- Dispatch when no hardware source is found (rule R201). -/
theorem dispatchCommon_none {start : Byte → Cursor} {poll : Bool} {fix : Cpu → Cpu} {c : Cpu}
    (h : (if poll then pollSources c else 0) = 0) :
    dispatchCommon start poll fix c =
      { fix c with brkSrcs := if (fix c).ir = 0x00 then srcSw else 0, mcp := start (fix c).ir } := by
  unfold dispatchCommon
  simp only [h, true_and]
  split <;> simp [srcSw, srcNmi, srcIrq]

/-- A poll finds NMI, IRQ, both or nothing. -/
theorem pollSources_and (c : Cpu) : pollSources c &&& (srcNmi ||| srcIrq) = pollSources c := by
  unfold pollSources
  split <;> split <;> decide

/-- Dispatch when a poll finds hardware sources (rule R201). -/
theorem dispatchCommon_some {start : Byte → Cursor} {fix : Cpu → Cpu} {c : Cpu} (h : pollSources c ≠ 0) :
    dispatchCommon start true fix c =
      { fix c with brkSrcs := pollSources c, pc := (fix c).pc - 1, ir := 0x00, mcp := start 0x00 } := by
  unfold dispatchCommon
  simp only [if_true, h, false_and, if_false, pollSources_and, ne_eq, not_false_eq_true]

/-- The poll reads the delay machines and `P.I` only. -/
theorem pollSources_congr {c e : Cpu} (hn : e.nmiT = c.nmiT) (hi : e.irqT = c.irqT) (hp : e.p = c.p) :
    pollSources e = pollSources c := by
  unfold pollSources
  rw [hn, hi, hp]

/-- The quiet opcode fetch at a boundary where no hardware source is found (rules R201 to R205). -/
theorem entered_of_fetch {c : Cpu} (op : Byte) (hb : isBoundary c.mcp = true) (hs : foundSources c = 0) :
    setLevels false false (tick (c.setCell .ir op)) = entered op c := by
  have hr := romAt_boundary c.mcp hb
  have hd : (romAt c.mcp).tag.isDispatch = true := hb
  generalize ht : (romAt c.mcp).tag = tag at hr hd
  have hpoll : pollSources (retire ⟨.pc, .ir, .read, true, tag⟩ (c.setCell .ir op)) = pollSources c :=
    pollSources_congr rfl rfl rfl
  unfold foundSources polls at hs
  rw [setLevels_quiet]
  unfold entered entryP
  cases tag <;> simp [Tag.isDispatch] at hd <;>
    simp only [ht, Config.brkTailPolls, Bool.or_false, ne_eq, decide_not, reduceCtorEq, decide_true, decide_false,
      Bool.not_false, Bool.not_true, Bool.false_eq_true, if_true, if_false] at hs <;>
    simp [tick, Cpu.setCell, hr, tagAction, advanceDelays, Config.brkTailPolls] <;>
    simp only [Cpu.setCell] at hpoll <;>
    rw [dispatchCommon_none (by simp [hpoll, hs])] <;>
    simp [retire, Cpu.setFlag]

/-- The quiet opcode fetch at a boundary where hardware sources are found (rule R201). -/
theorem interrupted_of_fetch {c : Cpu} (op : Byte) (hb : isBoundary c.mcp = true) (hs : foundSources c ≠ 0) :
    setLevels false false (tick (c.setCell .ir op)) = interrupted (foundSources c) c := by
  have hr := romAt_boundary c.mcp hb
  have hd : (romAt c.mcp).tag.isDispatch = true := hb
  generalize ht : (romAt c.mcp).tag = tag at hr hd
  have hpoll : pollSources (retire ⟨.pc, .ir, .read, true, tag⟩ (c.setCell .ir op)) = pollSources c :=
    pollSources_congr rfl rfl rfl
  unfold foundSources polls at hs ⊢
  rw [setLevels_quiet]
  unfold interrupted entryP
  cases tag <;> simp [Tag.isDispatch] at hd <;>
    simp only [ht, Config.brkTailPolls, Bool.or_false, ne_eq, decide_not, reduceCtorEq, decide_false,
      Bool.not_false, Bool.false_eq_true, if_true, if_false, not_true_eq_false] at hs ⊢ <;>
    simp [tick, Cpu.setCell, hr, tagAction, advanceDelays] <;>
    simp only [Cpu.setCell] at hpoll <;>
    rw [dispatchCommon_some (by rw [hpoll]; exact hs), hpoll] <;>
    simp [retire, Cpu.setFlag]

/-- The engine after a quiet opcode fetch is settled. -/
theorem entered_settled (op : Byte) (c : Cpu) : (entered op c).Settled := ⟨advance_advance _, rfl, rfl⟩

theorem enoughFuel_quiet {s : State} (h : s.inputs = []) : enoughFuel s = 9 := by simp [enoughFuel, h]

/-- The first cycle of an instruction at a `Ready` boundary. -/
theorem Ends.fetch {s : State} (hs : s.Ready) {op : Byte} {rest : List Byte} {mf : State} {cf : Cpu}
    {bf : List Transfer} (m : Cursor) (hop : opcStart op = m) (hn : (isBoundary m || isHalted m) = false)
    (k : ∀ t2, Ends s t2 { entered op s.cpu with mcp := m } s [(s.cpu.pc, .read, op)] →
      Ends s (runCycles 8 rest t2) cf mf bf) :
    Ends s (runSequence (op :: rest) s) cf mf bf := by
  subst hop
  have hr := romAt_boundary s.cpu.mcp hs.boundary
  have hf : Ends s (systemCycle (op :: rest) (clearTrace s)) (entered op s.cpu) s ([] ++ [(s.cpu.view .pc, .read, op)]) := by
    rw [← entered_of_fetch op hs.boundary hs.calm]
    exact (Ends.start hs.quiet).read (op :: rest) hr (by simp [readByte, isStreamRead])
  unfold runSequence
  rw [enoughFuel_quiet hs.quiet, runCycles_continue 8 (op :: rest) (t := clearTrace s) hs.quiet]
  · have : feedAfter (op :: rest) (romAt (clearTrace s).cpu.mcp) = rest := by
      show feedAfter (op :: rest) (romAt s.cpu.mcp) = rest
      rw [hr]; rfl
    rw [this]
    exact k _ hf
  · rw [hf.cpu]; exact (Bool.or_eq_false_iff.mp hn).1
  · rw [hf.cpu]; exact (Bool.or_eq_false_iff.mp hn).2

end Sys2Proof.Machine
end

