-- ==== Sys2Proof/Laws/Sequences.lean ====
section
/-! SUPPORT. What the quiet run of each micro-op sequence leaves, cycle by cycle, for any opcode that starts it
(spec/40_engine.md rules R210 to R221): the engine, the memory side, one transfer for each cycle. -/

namespace Sys2Proof.Machine

set_option linter.unusedSimpArgs false

theorem addr_add_two (p : Addr) : p + 1#16 + 1#16 = p + 2#16 := by bv_omega
theorem addr_add_three (p : Addr) : p + 2#16 + 1#16 = p + 3#16 := by bv_omega
theorem byte_sub_sub (a : Byte) : a - 1#8 - 1#8 = a - 2#8 := by bv_omega
theorem byte_sub_three (a : Byte) : a - 2#8 - 1#8 = a - 3#8 := by bv_omega
theorem byte_add_add (a : Byte) : a + 1#8 + 1#8 = a + 2#8 := by bv_omega
theorem byte_add_three (a : Byte) : a + 2#8 + 1#8 = a + 3#8 := by bv_omega
theorem byte_add_swap (a x : Byte) : a + x + 1#8 = a + 1#8 + x := by bv_omega

/-- The un-carried address is the effective one exactly when no page is crossed (rule R223). -/
theorem uncarried_eq_iff (a : Addr) (i : Byte) : setLo a (lo a + i) = a + zext16 i ↔ pageCross a i = false := by
  have hlo : lo (a + zext16 i) = lo a + i := by
    unfold lo zext16
    apply BitVec.eq_of_toNat_eq
    simp [BitVec.extractLsb'_toNat, BitVec.toNat_add, BitVec.toNat_setWidth]
  constructor
  · intro h
    have := congrArg hi h
    simp [pageCross, ← this]
  · intro h
    have hh : hi (a + zext16 i) = hi a := by simpa [pageCross] using h
    exact addr_ext (by simp [hlo]) (by simp [hh])

theorem absIndex_cross {i : Byte} {c : Cpu} {a : Addr} (ha : c.a1 = a) (h : pageCross a i = true) :
    absIndex i c = { c with a2 := eaIndexed a i, a1 := eaUncarried a i } := by
  subst ha
  have hn : ¬ (setLo c.a1 (lo c.a1 + i) = c.a1 + zext16 i) := by rw [uncarried_eq_iff, h]; simp
  simp [absIndex, indexA1, hn, eaIndexed, eaUncarried]

theorem absIndex_same {i : Byte} {c : Cpu} {a : Addr} (ha : c.a1 = a) (h : pageCross a i = false) :
    absIndex i c = { c with a2 := eaIndexed a i, a1 := eaUncarried a i, mcp := c.mcp + 1 } := by
  subst ha
  have hn := (uncarried_eq_iff c.a1 i).mpr h
  simp only [absIndex, indexA1, hn, eaIndexed, eaUncarried, if_true]

/-- `IMP` (rule R210). -/
theorem imp_ends {s : State} (hs : s.Ready) {op : Byte} 
    (hop : opcStart op = 0) :
    Ends s (runSequence [op] s)
      (doOp { entered op s.cpu with mcp := 1, d := s.readAt 1 (s.cpu.pc + 1) })
      s
      [(s.cpu.pc, .read, op), (s.cpu.pc + 1, .read, s.readAt 1 (s.cpu.pc + 1))] := by
  refine Ends.fetch hs 0 hop rfl fun t2 h2 => ?_
  refine h2.lastRead (s.readAt 1 (s.cpu.pc + 1)) (doOp { entered op s.cpu with mcp := 1, d := s.readAt 1 (s.cpu.pc + 1) }) rfl rfl
    (by simp [tagAction, retire, Cpu.setCell, entered, addr_add_two, addr_add_three]) (Cpu.Settled.doOp ⟨advance_advance _, rfl, rfl⟩) (by rw [doOp_mcp]; rfl)

/-- `IMM` (rule R211). -/
theorem imm_ends {s : State} (hs : s.Ready) {op : Byte} {v : Byte}
    (hop : opcStart op = 2) :
    Ends s (runSequence [op, v] s)
      (doOp { entered op s.cpu with mcp := 3, d := v, pc := s.cpu.pc + 2 })
      s
      [(s.cpu.pc, .read, op), (s.cpu.pc + 1, .read, v)] := by
  refine Ends.fetch hs 2 hop rfl fun t2 h2 => ?_
  refine h2.lastRead (v) (doOp { entered op s.cpu with mcp := 3, d := v, pc := s.cpu.pc + 2 }) rfl rfl
    (by simp [tagAction, retire, Cpu.setCell, entered, addr_add_two, addr_add_three]) (Cpu.Settled.doOp ⟨advance_advance _, rfl, rfl⟩) (by rw [doOp_mcp]; rfl)

/-- `ZP_R` (rule R212). -/
theorem zpR_ends {s : State} (hs : s.Ready) (hz : hi s.cpu.zpa = 0x00) {op : Byte} {zp : Byte}
    (hop : opcStart op = 4) :
    Ends s (runSequence [op, zp] s)
      (doOp { entered op s.cpu with mcp := 6, zpa := eaZp zp, pc := s.cpu.pc + 2, d := s.readAt 2 (eaZp zp) })
      s
      [(s.cpu.pc, .read, op), (s.cpu.pc + 1, .read, zp), (eaZp zp, .read, s.readAt 2 (eaZp zp))] := by
  refine Ends.fetch hs 4 hop rfl fun t2 h2 => ?_
  refine h2.thenRead (zp) ({ entered op s.cpu with mcp := 5, zpa := eaZp zp, pc := s.cpu.pc + 2 }) rfl rfl
    (by simp [tagAction, retire, Cpu.setCell, entered, setLo_of_page0 hz, addr_add_two, addr_add_three, eaZp]) ⟨advance_advance _, rfl, rfl⟩ rfl fun t3 h3 => ?_
  refine h3.lastRead (s.readAt 2 (eaZp zp)) (doOp { entered op s.cpu with mcp := 6, zpa := eaZp zp, pc := s.cpu.pc + 2, d := s.readAt 2 (eaZp zp) }) rfl rfl
    (by simp [tagAction, retire, Cpu.setCell, entered, setLo_of_page0 hz, addr_add_two, addr_add_three]) (Cpu.Settled.doOp ⟨advance_advance _, rfl, rfl⟩) (by rw [doOp_mcp]; rfl)

/-- `ZP_W` (rule R212): `w` is the value `st_reg` puts in `D`. -/
theorem zpW_ends {s : State} (hs : s.Ready) (hz : hi s.cpu.zpa = 0x00) {op : Byte} {zp : Byte}
    (hop : opcStart op = 7) {w : Byte}
    (hst : stReg { entered op s.cpu with mcp := 8, zpa := eaZp zp, pc := s.cpu.pc + 2 } = { { entered op s.cpu with mcp := 8, zpa := eaZp zp, pc := s.cpu.pc + 2 } with d := w }) :
    Ends s (runSequence [op, zp] s)
      ({ entered op s.cpu with mcp := 9, zpa := eaZp zp, pc := s.cpu.pc + 2, d := w })
      (busWrite s (eaZp zp) w)
      [(s.cpu.pc, .read, op), (s.cpu.pc + 1, .read, zp), ((eaZp zp), .write, w)] := by
  refine Ends.fetch hs 7 hop rfl fun t2 h2 => ?_
  refine h2.thenRead (zp) ({ entered op s.cpu with mcp := 8, zpa := eaZp zp, pc := s.cpu.pc + 2, d := w }) rfl rfl
    (Eq.trans (by simp [tagAction, retire, Cpu.setCell, entered, setLo_of_page0 hz, addr_add_two, addr_add_three, eaZp]) hst) ⟨advance_advance _, rfl, rfl⟩ rfl fun t3 h3 => ?_
  refine h3.lastWrite ({ entered op s.cpu with mcp := 9, zpa := eaZp zp, pc := s.cpu.pc + 2, d := w }) rfl
    rfl ⟨advance_advance _, rfl, rfl⟩ rfl

/-- `ZP_M` (rule R212): `r` is the engine after `do_op`. -/
theorem zpM_ends {s : State} (hs : s.Ready) (hz : hi s.cpu.zpa = 0x00) {op : Byte} {zp : Byte}
    (hop : opcStart op = 10) {r : Cpu}
    (hr : doOp { entered op s.cpu with mcp := 13, zpa := eaZp zp, pc := s.cpu.pc + 2, d := s.readAt 2 (eaZp zp) } = r) :
    Ends s (runSequence [op, zp] s)
      ({ r with mcp := 14 })
      (busWrite (busWrite s (eaZp zp) (s.readAt 2 (eaZp zp))) (eaZp zp) r.d)
      [(s.cpu.pc, .read, op), (s.cpu.pc + 1, .read, zp), (eaZp zp, .read, s.readAt 2 (eaZp zp)), (eaZp zp, .write, s.readAt 2 (eaZp zp)), (eaZp zp, .write, r.d)] := by
  subst hr
  refine Ends.fetch hs 10 hop rfl fun t2 h2 => ?_
  refine h2.thenRead (zp) ({ entered op s.cpu with mcp := 11, zpa := eaZp zp, pc := s.cpu.pc + 2 }) rfl rfl
    (by simp [tagAction, retire, Cpu.setCell, entered, setLo_of_page0 hz, addr_add_two, addr_add_three, eaZp]) ⟨advance_advance _, rfl, rfl⟩ rfl fun t3 h3 => ?_
  refine h3.thenRead (s.readAt 2 (eaZp zp)) ({ entered op s.cpu with mcp := 12, zpa := eaZp zp, pc := s.cpu.pc + 2, d := s.readAt 2 (eaZp zp) }) rfl rfl
    (by simp [tagAction, retire, Cpu.setCell, entered, setLo_of_page0 hz, addr_add_two, addr_add_three]) ⟨advance_advance _, rfl, rfl⟩ rfl fun t4 h4 => ?_
  refine h4.thenWrite ({ { entered op s.cpu with mcp := 13, zpa := eaZp zp, pc := s.cpu.pc + 2, d := s.readAt 2 (eaZp zp) } with a := (doOp { entered op s.cpu with mcp := 13, zpa := eaZp zp, pc := s.cpu.pc + 2, d := s.readAt 2 (eaZp zp) }).a, x := (doOp { entered op s.cpu with mcp := 13, zpa := eaZp zp, pc := s.cpu.pc + 2, d := s.readAt 2 (eaZp zp) }).x, y := (doOp { entered op s.cpu with mcp := 13, zpa := eaZp zp, pc := s.cpu.pc + 2, d := s.readAt 2 (eaZp zp) }).y, p := (doOp { entered op s.cpu with mcp := 13, zpa := eaZp zp, pc := s.cpu.pc + 2, d := s.readAt 2 (eaZp zp) }).p, d := (doOp { entered op s.cpu with mcp := 13, zpa := eaZp zp, pc := s.cpu.pc + 2, d := s.readAt 2 (eaZp zp) }).d, sp := (doOp { entered op s.cpu with mcp := 13, zpa := eaZp zp, pc := s.cpu.pc + 2, d := s.readAt 2 (eaZp zp) }).sp }) rfl
    (Eq.trans (b := doOp { entered op s.cpu with mcp := 13, zpa := eaZp zp, pc := s.cpu.pc + 2, d := s.readAt 2 (eaZp zp) }) (by simp [tagAction, retire]) (doOp_frame { entered op s.cpu with mcp := 13, zpa := eaZp zp, pc := s.cpu.pc + 2, d := s.readAt 2 (eaZp zp) })) ⟨advance_advance _, rfl, rfl⟩ rfl fun t5 h5 => ?_
  refine h5.lastWrite ({ doOp { entered op s.cpu with mcp := 13, zpa := eaZp zp, pc := s.cpu.pc + 2, d := s.readAt 2 (eaZp zp) } with mcp := 14 }) rfl
    (by simp [tagAction, retire]) ?_ rfl
  exact ⟨by simp [entered], by simp [entered], by simp [entered]⟩

/-- `ZPX_R` (rule R213). -/
theorem zpxR_ends {s : State} (hs : s.Ready) (hz : hi s.cpu.zpa = 0x00) {op : Byte} {zp : Byte}
    (hop : opcStart op = 15) :
    Ends s (runSequence [op, zp] s)
      (doOp { entered op s.cpu with mcp := 18, zpa := eaZpIndexed zp s.cpu.x, pc := s.cpu.pc + 2, d := s.readAt 3 (eaZpIndexed zp s.cpu.x) })
      s
      [(s.cpu.pc, .read, op), (s.cpu.pc + 1, .read, zp), (eaZp zp, .read, s.readAt 2 (eaZp zp)), (eaZpIndexed zp s.cpu.x, .read, s.readAt 3 (eaZpIndexed zp s.cpu.x))] := by
  refine Ends.fetch hs 15 hop rfl fun t2 h2 => ?_
  refine h2.thenRead (zp) ({ entered op s.cpu with mcp := 16, zpa := eaZp zp, pc := s.cpu.pc + 2 }) rfl rfl
    (by simp [tagAction, retire, Cpu.setCell, entered, setLo_of_page0 hz, addr_add_two, addr_add_three, eaZp]) ⟨advance_advance _, rfl, rfl⟩ rfl fun t3 h3 => ?_
  refine h3.thenRead (s.readAt 2 (eaZp zp)) ({ entered op s.cpu with mcp := 17, zpa := eaZpIndexed zp s.cpu.x, pc := s.cpu.pc + 2, d := s.readAt 2 (eaZp zp) }) rfl rfl
    (by simp [tagAction, retire, Cpu.setCell, entered, setLo_of_page0 hz, addr_add_two, addr_add_three, eaZp, eaZpIndexed, zpX]) ⟨advance_advance _, rfl, rfl⟩ rfl fun t4 h4 => ?_
  refine h4.lastRead (s.readAt 3 (eaZpIndexed zp s.cpu.x)) (doOp { entered op s.cpu with mcp := 18, zpa := eaZpIndexed zp s.cpu.x, pc := s.cpu.pc + 2, d := s.readAt 3 (eaZpIndexed zp s.cpu.x) }) rfl rfl
    (by simp [tagAction, retire, Cpu.setCell, entered, setLo_of_page0 hz, addr_add_two, addr_add_three]) (Cpu.Settled.doOp ⟨advance_advance _, rfl, rfl⟩) (by rw [doOp_mcp]; rfl)

/-- `ZPX_W` (rule R213). -/
theorem zpxW_ends {s : State} (hs : s.Ready) (hz : hi s.cpu.zpa = 0x00) {op : Byte} {zp : Byte}
    (hop : opcStart op = 19) {w : Byte}
    (hst : stReg { entered op s.cpu with mcp := 21, zpa := eaZpIndexed zp s.cpu.x, pc := s.cpu.pc + 2, d := s.readAt 2 (eaZp zp) } = { { entered op s.cpu with mcp := 21, zpa := eaZpIndexed zp s.cpu.x, pc := s.cpu.pc + 2, d := s.readAt 2 (eaZp zp) } with d := w }) :
    Ends s (runSequence [op, zp] s)
      ({ entered op s.cpu with mcp := 22, zpa := eaZpIndexed zp s.cpu.x, pc := s.cpu.pc + 2, d := w })
      (busWrite s (eaZpIndexed zp s.cpu.x) w)
      [(s.cpu.pc, .read, op), (s.cpu.pc + 1, .read, zp), (eaZp zp, .read, s.readAt 2 (eaZp zp)), ((eaZpIndexed zp s.cpu.x), .write, w)] := by
  refine Ends.fetch hs 19 hop rfl fun t2 h2 => ?_
  refine h2.thenRead (zp) ({ entered op s.cpu with mcp := 20, zpa := eaZp zp, pc := s.cpu.pc + 2 }) rfl rfl
    (by simp [tagAction, retire, Cpu.setCell, entered, setLo_of_page0 hz, addr_add_two, addr_add_three, eaZp]) ⟨advance_advance _, rfl, rfl⟩ rfl fun t3 h3 => ?_
  refine h3.thenRead (s.readAt 2 (eaZp zp)) ({ entered op s.cpu with mcp := 21, zpa := eaZpIndexed zp s.cpu.x, pc := s.cpu.pc + 2, d := w }) rfl rfl
    (Eq.trans (by simp [tagAction, retire, Cpu.setCell, entered, setLo_of_page0 hz, addr_add_two, addr_add_three, eaZp, eaZpIndexed, zpX]) hst) ⟨advance_advance _, rfl, rfl⟩ rfl fun t4 h4 => ?_
  refine h4.lastWrite ({ entered op s.cpu with mcp := 22, zpa := eaZpIndexed zp s.cpu.x, pc := s.cpu.pc + 2, d := w }) rfl
    rfl ⟨advance_advance _, rfl, rfl⟩ rfl

/-- `ZPX_M` (rule R213). -/
theorem zpxM_ends {s : State} (hs : s.Ready) (hz : hi s.cpu.zpa = 0x00) {op : Byte} {zp : Byte}
    (hop : opcStart op = 23) {r : Cpu}
    (hr : doOp { entered op s.cpu with mcp := 27, zpa := eaZpIndexed zp s.cpu.x, pc := s.cpu.pc + 2, d := s.readAt 3 (eaZpIndexed zp s.cpu.x) } = r) :
    Ends s (runSequence [op, zp] s)
      ({ r with mcp := 28 })
      (busWrite (busWrite s (eaZpIndexed zp s.cpu.x) (s.readAt 3 (eaZpIndexed zp s.cpu.x))) (eaZpIndexed zp s.cpu.x) r.d)
      [(s.cpu.pc, .read, op), (s.cpu.pc + 1, .read, zp), (eaZp zp, .read, s.readAt 2 (eaZp zp)), (eaZpIndexed zp s.cpu.x, .read, s.readAt 3 (eaZpIndexed zp s.cpu.x)), (eaZpIndexed zp s.cpu.x, .write, s.readAt 3 (eaZpIndexed zp s.cpu.x)), (eaZpIndexed zp s.cpu.x, .write, r.d)] := by
  subst hr
  refine Ends.fetch hs 23 hop rfl fun t2 h2 => ?_
  refine h2.thenRead (zp) ({ entered op s.cpu with mcp := 24, zpa := eaZp zp, pc := s.cpu.pc + 2 }) rfl rfl
    (by simp [tagAction, retire, Cpu.setCell, entered, setLo_of_page0 hz, addr_add_two, addr_add_three, eaZp]) ⟨advance_advance _, rfl, rfl⟩ rfl fun t3 h3 => ?_
  refine h3.thenRead (s.readAt 2 (eaZp zp)) ({ entered op s.cpu with mcp := 25, zpa := eaZpIndexed zp s.cpu.x, pc := s.cpu.pc + 2, d := s.readAt 2 (eaZp zp) }) rfl rfl
    (by simp [tagAction, retire, Cpu.setCell, entered, setLo_of_page0 hz, addr_add_two, addr_add_three, eaZp, eaZpIndexed, zpX]) ⟨advance_advance _, rfl, rfl⟩ rfl fun t4 h4 => ?_
  refine h4.thenRead (s.readAt 3 (eaZpIndexed zp s.cpu.x)) ({ entered op s.cpu with mcp := 26, zpa := eaZpIndexed zp s.cpu.x, pc := s.cpu.pc + 2, d := s.readAt 3 (eaZpIndexed zp s.cpu.x) }) rfl rfl
    (by simp [tagAction, retire, Cpu.setCell, entered, setLo_of_page0 hz, addr_add_two, addr_add_three]) ⟨advance_advance _, rfl, rfl⟩ rfl fun t5 h5 => ?_
  refine h5.thenWrite ({ { entered op s.cpu with mcp := 27, zpa := eaZpIndexed zp s.cpu.x, pc := s.cpu.pc + 2, d := s.readAt 3 (eaZpIndexed zp s.cpu.x) } with a := (doOp { entered op s.cpu with mcp := 27, zpa := eaZpIndexed zp s.cpu.x, pc := s.cpu.pc + 2, d := s.readAt 3 (eaZpIndexed zp s.cpu.x) }).a, x := (doOp { entered op s.cpu with mcp := 27, zpa := eaZpIndexed zp s.cpu.x, pc := s.cpu.pc + 2, d := s.readAt 3 (eaZpIndexed zp s.cpu.x) }).x, y := (doOp { entered op s.cpu with mcp := 27, zpa := eaZpIndexed zp s.cpu.x, pc := s.cpu.pc + 2, d := s.readAt 3 (eaZpIndexed zp s.cpu.x) }).y, p := (doOp { entered op s.cpu with mcp := 27, zpa := eaZpIndexed zp s.cpu.x, pc := s.cpu.pc + 2, d := s.readAt 3 (eaZpIndexed zp s.cpu.x) }).p, d := (doOp { entered op s.cpu with mcp := 27, zpa := eaZpIndexed zp s.cpu.x, pc := s.cpu.pc + 2, d := s.readAt 3 (eaZpIndexed zp s.cpu.x) }).d, sp := (doOp { entered op s.cpu with mcp := 27, zpa := eaZpIndexed zp s.cpu.x, pc := s.cpu.pc + 2, d := s.readAt 3 (eaZpIndexed zp s.cpu.x) }).sp }) rfl
    (Eq.trans (b := doOp { entered op s.cpu with mcp := 27, zpa := eaZpIndexed zp s.cpu.x, pc := s.cpu.pc + 2, d := s.readAt 3 (eaZpIndexed zp s.cpu.x) }) (by simp [tagAction, retire]) (doOp_frame { entered op s.cpu with mcp := 27, zpa := eaZpIndexed zp s.cpu.x, pc := s.cpu.pc + 2, d := s.readAt 3 (eaZpIndexed zp s.cpu.x) })) ⟨advance_advance _, rfl, rfl⟩ rfl fun t6 h6 => ?_
  refine h6.lastWrite ({ doOp { entered op s.cpu with mcp := 27, zpa := eaZpIndexed zp s.cpu.x, pc := s.cpu.pc + 2, d := s.readAt 3 (eaZpIndexed zp s.cpu.x) } with mcp := 28 }) rfl
    (by simp [tagAction, retire]) ?_ rfl
  exact ⟨by simp [entered], by simp [entered], by simp [entered]⟩

/-- `ZPY_R` (rule R213). -/
theorem zpyR_ends {s : State} (hs : s.Ready) (hz : hi s.cpu.zpa = 0x00) {op : Byte} {zp : Byte}
    (hop : opcStart op = 29) :
    Ends s (runSequence [op, zp] s)
      (doOp { entered op s.cpu with mcp := 32, zpa := eaZpIndexed zp s.cpu.y, pc := s.cpu.pc + 2, d := s.readAt 3 (eaZpIndexed zp s.cpu.y) })
      s
      [(s.cpu.pc, .read, op), (s.cpu.pc + 1, .read, zp), (eaZp zp, .read, s.readAt 2 (eaZp zp)), (eaZpIndexed zp s.cpu.y, .read, s.readAt 3 (eaZpIndexed zp s.cpu.y))] := by
  refine Ends.fetch hs 29 hop rfl fun t2 h2 => ?_
  refine h2.thenRead (zp) ({ entered op s.cpu with mcp := 30, zpa := eaZp zp, pc := s.cpu.pc + 2 }) rfl rfl
    (by simp [tagAction, retire, Cpu.setCell, entered, setLo_of_page0 hz, addr_add_two, addr_add_three, eaZp]) ⟨advance_advance _, rfl, rfl⟩ rfl fun t3 h3 => ?_
  refine h3.thenRead (s.readAt 2 (eaZp zp)) ({ entered op s.cpu with mcp := 31, zpa := eaZpIndexed zp s.cpu.y, pc := s.cpu.pc + 2, d := s.readAt 2 (eaZp zp) }) rfl rfl
    (by simp [tagAction, retire, Cpu.setCell, entered, setLo_of_page0 hz, addr_add_two, addr_add_three, eaZp, eaZpIndexed, zpY]) ⟨advance_advance _, rfl, rfl⟩ rfl fun t4 h4 => ?_
  refine h4.lastRead (s.readAt 3 (eaZpIndexed zp s.cpu.y)) (doOp { entered op s.cpu with mcp := 32, zpa := eaZpIndexed zp s.cpu.y, pc := s.cpu.pc + 2, d := s.readAt 3 (eaZpIndexed zp s.cpu.y) }) rfl rfl
    (by simp [tagAction, retire, Cpu.setCell, entered, setLo_of_page0 hz, addr_add_two, addr_add_three]) (Cpu.Settled.doOp ⟨advance_advance _, rfl, rfl⟩) (by rw [doOp_mcp]; rfl)

/-- `ZPY_W` (rule R213). -/
theorem zpyW_ends {s : State} (hs : s.Ready) (hz : hi s.cpu.zpa = 0x00) {op : Byte} {zp : Byte}
    (hop : opcStart op = 33) {w : Byte}
    (hst : stReg { entered op s.cpu with mcp := 35, zpa := eaZpIndexed zp s.cpu.y, pc := s.cpu.pc + 2, d := s.readAt 2 (eaZp zp) } = { { entered op s.cpu with mcp := 35, zpa := eaZpIndexed zp s.cpu.y, pc := s.cpu.pc + 2, d := s.readAt 2 (eaZp zp) } with d := w }) :
    Ends s (runSequence [op, zp] s)
      ({ entered op s.cpu with mcp := 36, zpa := eaZpIndexed zp s.cpu.y, pc := s.cpu.pc + 2, d := w })
      (busWrite s (eaZpIndexed zp s.cpu.y) w)
      [(s.cpu.pc, .read, op), (s.cpu.pc + 1, .read, zp), (eaZp zp, .read, s.readAt 2 (eaZp zp)), ((eaZpIndexed zp s.cpu.y), .write, w)] := by
  refine Ends.fetch hs 33 hop rfl fun t2 h2 => ?_
  refine h2.thenRead (zp) ({ entered op s.cpu with mcp := 34, zpa := eaZp zp, pc := s.cpu.pc + 2 }) rfl rfl
    (by simp [tagAction, retire, Cpu.setCell, entered, setLo_of_page0 hz, addr_add_two, addr_add_three, eaZp]) ⟨advance_advance _, rfl, rfl⟩ rfl fun t3 h3 => ?_
  refine h3.thenRead (s.readAt 2 (eaZp zp)) ({ entered op s.cpu with mcp := 35, zpa := eaZpIndexed zp s.cpu.y, pc := s.cpu.pc + 2, d := w }) rfl rfl
    (Eq.trans (by simp [tagAction, retire, Cpu.setCell, entered, setLo_of_page0 hz, addr_add_two, addr_add_three, eaZp, eaZpIndexed, zpY]) hst) ⟨advance_advance _, rfl, rfl⟩ rfl fun t4 h4 => ?_
  refine h4.lastWrite ({ entered op s.cpu with mcp := 36, zpa := eaZpIndexed zp s.cpu.y, pc := s.cpu.pc + 2, d := w }) rfl
    rfl ⟨advance_advance _, rfl, rfl⟩ rfl

/-- `ABS_R` (rule R214). -/
theorem absR_ends {s : State} (hs : s.Ready) {op : Byte} {addr : Addr}
    (hop : opcStart op = 37) :
    Ends s (runSequence [op, lo addr, hi addr] s)
      (doOp { entered op s.cpu with mcp := 40, a1 := addr, pc := s.cpu.pc + 3, d := s.readAt 3 (addr) })
      s
      [(s.cpu.pc, .read, op), (s.cpu.pc + 1, .read, lo addr), (s.cpu.pc + 2, .read, hi addr), (addr, .read, s.readAt 3 (addr))] := by
  refine Ends.fetch hs 37 hop rfl fun t2 h2 => ?_
  refine h2.thenRead (lo addr) ({ entered op s.cpu with mcp := 38, a1 := setLo s.cpu.a1 (lo addr), pc := s.cpu.pc + 2 }) rfl rfl
    (by simp [tagAction, retire, Cpu.setCell, entered, addr_add_two, addr_add_three]) ⟨advance_advance _, rfl, rfl⟩ rfl fun t3 h3 => ?_
  refine h3.thenRead (hi addr) ({ entered op s.cpu with mcp := 39, a1 := addr, pc := s.cpu.pc + 3 }) rfl rfl
    (by simp [tagAction, retire, Cpu.setCell, entered, addr_add_two, addr_add_three]) ⟨advance_advance _, rfl, rfl⟩ rfl fun t4 h4 => ?_
  refine h4.lastRead (s.readAt 3 (addr)) (doOp { entered op s.cpu with mcp := 40, a1 := addr, pc := s.cpu.pc + 3, d := s.readAt 3 (addr) }) rfl rfl
    (by simp [tagAction, retire, Cpu.setCell, entered, addr_add_two, addr_add_three]) (Cpu.Settled.doOp ⟨advance_advance _, rfl, rfl⟩) (by rw [doOp_mcp]; rfl)

/-- `ABS_W` (rule R214). -/
theorem absW_ends {s : State} (hs : s.Ready) {op : Byte} {addr : Addr}
    (hop : opcStart op = 41) {w : Byte}
    (hst : stReg { entered op s.cpu with mcp := 43, a1 := addr, pc := s.cpu.pc + 3 } = { { entered op s.cpu with mcp := 43, a1 := addr, pc := s.cpu.pc + 3 } with d := w }) :
    Ends s (runSequence [op, lo addr, hi addr] s)
      ({ entered op s.cpu with mcp := 44, a1 := addr, pc := s.cpu.pc + 3, d := w })
      (busWrite s (addr) w)
      [(s.cpu.pc, .read, op), (s.cpu.pc + 1, .read, lo addr), (s.cpu.pc + 2, .read, hi addr), ((addr), .write, w)] := by
  refine Ends.fetch hs 41 hop rfl fun t2 h2 => ?_
  refine h2.thenRead (lo addr) ({ entered op s.cpu with mcp := 42, a1 := setLo s.cpu.a1 (lo addr), pc := s.cpu.pc + 2 }) rfl rfl
    (by simp [tagAction, retire, Cpu.setCell, entered, addr_add_two, addr_add_three]) ⟨advance_advance _, rfl, rfl⟩ rfl fun t3 h3 => ?_
  refine h3.thenRead (hi addr) ({ entered op s.cpu with mcp := 43, a1 := addr, pc := s.cpu.pc + 3, d := w }) rfl rfl
    (Eq.trans (by simp [tagAction, retire, Cpu.setCell, entered, addr_add_two, addr_add_three, setHi_setLo]) hst) ⟨advance_advance _, rfl, rfl⟩ rfl fun t4 h4 => ?_
  refine h4.lastWrite ({ entered op s.cpu with mcp := 44, a1 := addr, pc := s.cpu.pc + 3, d := w }) rfl
    rfl ⟨advance_advance _, rfl, rfl⟩ rfl

/-- `ABS_M` (rule R214). -/
theorem absM_ends {s : State} (hs : s.Ready) {op : Byte} {addr : Addr}
    (hop : opcStart op = 45) {r : Cpu}
    (hr : doOp { entered op s.cpu with mcp := 49, a1 := addr, pc := s.cpu.pc + 3, d := s.readAt 3 (addr) } = r) :
    Ends s (runSequence [op, lo addr, hi addr] s)
      ({ r with mcp := 50 })
      (busWrite (busWrite s (addr) (s.readAt 3 (addr))) (addr) r.d)
      [(s.cpu.pc, .read, op), (s.cpu.pc + 1, .read, lo addr), (s.cpu.pc + 2, .read, hi addr), (addr, .read, s.readAt 3 (addr)), (addr, .write, s.readAt 3 (addr)), (addr, .write, r.d)] := by
  subst hr
  refine Ends.fetch hs 45 hop rfl fun t2 h2 => ?_
  refine h2.thenRead (lo addr) ({ entered op s.cpu with mcp := 46, a1 := setLo s.cpu.a1 (lo addr), pc := s.cpu.pc + 2 }) rfl rfl
    (by simp [tagAction, retire, Cpu.setCell, entered, addr_add_two, addr_add_three]) ⟨advance_advance _, rfl, rfl⟩ rfl fun t3 h3 => ?_
  refine h3.thenRead (hi addr) ({ entered op s.cpu with mcp := 47, a1 := addr, pc := s.cpu.pc + 3 }) rfl rfl
    (by simp [tagAction, retire, Cpu.setCell, entered, addr_add_two, addr_add_three]) ⟨advance_advance _, rfl, rfl⟩ rfl fun t4 h4 => ?_
  refine h4.thenRead (s.readAt 3 (addr)) ({ entered op s.cpu with mcp := 48, a1 := addr, pc := s.cpu.pc + 3, d := s.readAt 3 (addr) }) rfl rfl
    (by simp [tagAction, retire, Cpu.setCell, entered, addr_add_two, addr_add_three]) ⟨advance_advance _, rfl, rfl⟩ rfl fun t5 h5 => ?_
  refine h5.thenWrite ({ { entered op s.cpu with mcp := 49, a1 := addr, pc := s.cpu.pc + 3, d := s.readAt 3 (addr) } with a := (doOp { entered op s.cpu with mcp := 49, a1 := addr, pc := s.cpu.pc + 3, d := s.readAt 3 (addr) }).a, x := (doOp { entered op s.cpu with mcp := 49, a1 := addr, pc := s.cpu.pc + 3, d := s.readAt 3 (addr) }).x, y := (doOp { entered op s.cpu with mcp := 49, a1 := addr, pc := s.cpu.pc + 3, d := s.readAt 3 (addr) }).y, p := (doOp { entered op s.cpu with mcp := 49, a1 := addr, pc := s.cpu.pc + 3, d := s.readAt 3 (addr) }).p, d := (doOp { entered op s.cpu with mcp := 49, a1 := addr, pc := s.cpu.pc + 3, d := s.readAt 3 (addr) }).d, sp := (doOp { entered op s.cpu with mcp := 49, a1 := addr, pc := s.cpu.pc + 3, d := s.readAt 3 (addr) }).sp }) rfl
    (Eq.trans (b := doOp { entered op s.cpu with mcp := 49, a1 := addr, pc := s.cpu.pc + 3, d := s.readAt 3 (addr) }) (by simp [tagAction, retire]) (doOp_frame { entered op s.cpu with mcp := 49, a1 := addr, pc := s.cpu.pc + 3, d := s.readAt 3 (addr) })) ⟨advance_advance _, rfl, rfl⟩ rfl fun t6 h6 => ?_
  refine h6.lastWrite ({ doOp { entered op s.cpu with mcp := 49, a1 := addr, pc := s.cpu.pc + 3, d := s.readAt 3 (addr) } with mcp := 50 }) rfl
    (by simp [tagAction, retire]) ?_ rfl
  exact ⟨by simp [entered], by simp [entered], by simp [entered]⟩

/-- `ABX_R` when a page is crossed (rule R215). -/
theorem abxR_cross_ends {s : State} (hs : s.Ready) {op : Byte} {addr : Addr}
    (hop : opcStart op = 51)
    (hp : pageCross addr s.cpu.x = true) :
    Ends s (runSequence [op, lo addr, hi addr] s)
      (doOp { entered op s.cpu with mcp := 55, a1 := eaUncarried addr s.cpu.x, pc := s.cpu.pc + 3, a2 := eaIndexed addr s.cpu.x, d := s.readAt 4 (eaIndexed addr s.cpu.x) })
      s
      [(s.cpu.pc, .read, op), (s.cpu.pc + 1, .read, lo addr), (s.cpu.pc + 2, .read, hi addr), (eaUncarried addr s.cpu.x, .read, s.readAt 3 (eaUncarried addr s.cpu.x)), (eaIndexed addr s.cpu.x, .read, s.readAt 4 (eaIndexed addr s.cpu.x))] := by
  refine Ends.fetch hs 51 hop rfl fun t2 h2 => ?_
  refine h2.thenRead (lo addr) ({ entered op s.cpu with mcp := 52, a1 := setLo s.cpu.a1 (lo addr), pc := s.cpu.pc + 2 }) rfl rfl
    (by simp [tagAction, retire, Cpu.setCell, entered, addr_add_two, addr_add_three]) ⟨advance_advance _, rfl, rfl⟩ rfl fun t3 h3 => ?_
  refine h3.thenRead (hi addr) ({ entered op s.cpu with mcp := 53, a1 := eaUncarried addr s.cpu.x, pc := s.cpu.pc + 3, a2 := eaIndexed addr s.cpu.x }) rfl rfl
    ((absIndex_cross (by simp [tagAction, retire, Cpu.setCell, entered, addr_add_two, addr_add_three]) hp).trans (by simp [tagAction, retire, Cpu.setCell, entered, addr_add_two, addr_add_three])) ⟨advance_advance _, rfl, rfl⟩ rfl fun t4 h4 => ?_
  refine h4.thenRead (s.readAt 3 (eaUncarried addr s.cpu.x)) ({ entered op s.cpu with mcp := 54, a1 := eaUncarried addr s.cpu.x, pc := s.cpu.pc + 3, a2 := eaIndexed addr s.cpu.x, d := s.readAt 3 (eaUncarried addr s.cpu.x) }) rfl rfl
    (by simp [tagAction, retire, Cpu.setCell, entered, addr_add_two, addr_add_three]) ⟨advance_advance _, rfl, rfl⟩ rfl fun t5 h5 => ?_
  refine h5.lastRead (s.readAt 4 (eaIndexed addr s.cpu.x)) (doOp { entered op s.cpu with mcp := 55, a1 := eaUncarried addr s.cpu.x, pc := s.cpu.pc + 3, a2 := eaIndexed addr s.cpu.x, d := s.readAt 4 (eaIndexed addr s.cpu.x) }) rfl rfl
    (by simp [tagAction, retire, Cpu.setCell, entered, addr_add_two, addr_add_three]) (Cpu.Settled.doOp ⟨advance_advance _, rfl, rfl⟩) (by rw [doOp_mcp]; rfl)

/-- `ABX_R` when no page is crossed (rule R215). -/
theorem abxR_same_ends {s : State} (hs : s.Ready) {op : Byte} {addr : Addr}
    (hop : opcStart op = 51)
    (hp : pageCross addr s.cpu.x = false) :
    Ends s (runSequence [op, lo addr, hi addr] s)
      (doOp { entered op s.cpu with mcp := 55, a1 := eaUncarried addr s.cpu.x, pc := s.cpu.pc + 3, a2 := eaIndexed addr s.cpu.x, d := s.readAt 3 (eaIndexed addr s.cpu.x) })
      s
      [(s.cpu.pc, .read, op), (s.cpu.pc + 1, .read, lo addr), (s.cpu.pc + 2, .read, hi addr), (eaIndexed addr s.cpu.x, .read, s.readAt 3 (eaIndexed addr s.cpu.x))] := by
  refine Ends.fetch hs 51 hop rfl fun t2 h2 => ?_
  refine h2.thenRead (lo addr) ({ entered op s.cpu with mcp := 52, a1 := setLo s.cpu.a1 (lo addr), pc := s.cpu.pc + 2 }) rfl rfl
    (by simp [tagAction, retire, Cpu.setCell, entered, addr_add_two, addr_add_three]) ⟨advance_advance _, rfl, rfl⟩ rfl fun t3 h3 => ?_
  refine h3.thenRead (hi addr) ({ entered op s.cpu with mcp := 54, a1 := eaUncarried addr s.cpu.x, pc := s.cpu.pc + 3, a2 := eaIndexed addr s.cpu.x }) rfl rfl
    ((absIndex_same (by simp [tagAction, retire, Cpu.setCell, entered, addr_add_two, addr_add_three]) hp).trans (by simp [tagAction, retire, Cpu.setCell, entered, addr_add_two, addr_add_three])) ⟨advance_advance _, rfl, rfl⟩ rfl fun t4 h4 => ?_
  refine h4.lastRead (s.readAt 3 (eaIndexed addr s.cpu.x)) (doOp { entered op s.cpu with mcp := 55, a1 := eaUncarried addr s.cpu.x, pc := s.cpu.pc + 3, a2 := eaIndexed addr s.cpu.x, d := s.readAt 3 (eaIndexed addr s.cpu.x) }) rfl rfl
    (by simp [tagAction, retire, Cpu.setCell, entered, addr_add_two, addr_add_three]) (Cpu.Settled.doOp ⟨advance_advance _, rfl, rfl⟩) (by rw [doOp_mcp]; rfl)

/-- `ABX_W` (rule R216). -/
theorem abxW_ends {s : State} (hs : s.Ready) {op : Byte} {addr : Addr}
    (hop : opcStart op = 56) {w : Byte}
    (hst : stReg { entered op s.cpu with mcp := 59, a1 := eaUncarried addr s.cpu.x, pc := s.cpu.pc + 3, a2 := eaIndexed addr s.cpu.x, d := s.readAt 3 (eaUncarried addr s.cpu.x) } = { { entered op s.cpu with mcp := 59, a1 := eaUncarried addr s.cpu.x, pc := s.cpu.pc + 3, a2 := eaIndexed addr s.cpu.x, d := s.readAt 3 (eaUncarried addr s.cpu.x) } with d := w }) :
    Ends s (runSequence [op, lo addr, hi addr] s)
      ({ entered op s.cpu with mcp := 60, a1 := eaUncarried addr s.cpu.x, pc := s.cpu.pc + 3, a2 := eaIndexed addr s.cpu.x, d := w })
      (busWrite s (eaIndexed addr s.cpu.x) w)
      [(s.cpu.pc, .read, op), (s.cpu.pc + 1, .read, lo addr), (s.cpu.pc + 2, .read, hi addr), (eaUncarried addr s.cpu.x, .read, s.readAt 3 (eaUncarried addr s.cpu.x)), ((eaIndexed addr s.cpu.x), .write, w)] := by
  refine Ends.fetch hs 56 hop rfl fun t2 h2 => ?_
  refine h2.thenRead (lo addr) ({ entered op s.cpu with mcp := 57, a1 := setLo s.cpu.a1 (lo addr), pc := s.cpu.pc + 2 }) rfl rfl
    (by simp [tagAction, retire, Cpu.setCell, entered, addr_add_two, addr_add_three]) ⟨advance_advance _, rfl, rfl⟩ rfl fun t3 h3 => ?_
  refine h3.thenRead (hi addr) ({ entered op s.cpu with mcp := 58, a1 := eaUncarried addr s.cpu.x, pc := s.cpu.pc + 3, a2 := eaIndexed addr s.cpu.x }) rfl rfl
    (by simp [tagAction, retire, Cpu.setCell, entered, addr_add_two, addr_add_three, indexA1, eaUncarried, eaIndexed]) ⟨advance_advance _, rfl, rfl⟩ rfl fun t4 h4 => ?_
  refine h4.thenRead (s.readAt 3 (eaUncarried addr s.cpu.x)) ({ entered op s.cpu with mcp := 59, a1 := eaUncarried addr s.cpu.x, pc := s.cpu.pc + 3, a2 := eaIndexed addr s.cpu.x, d := w }) rfl rfl
    (Eq.trans (by simp [tagAction, retire, Cpu.setCell, entered, addr_add_two, addr_add_three, indexA1, eaUncarried, eaIndexed]) hst) ⟨advance_advance _, rfl, rfl⟩ rfl fun t5 h5 => ?_
  refine h5.lastWrite ({ entered op s.cpu with mcp := 60, a1 := eaUncarried addr s.cpu.x, pc := s.cpu.pc + 3, a2 := eaIndexed addr s.cpu.x, d := w }) rfl
    rfl ⟨advance_advance _, rfl, rfl⟩ rfl

/-- `ABX_M` (rule R217). -/
theorem abxM_ends {s : State} (hs : s.Ready) {op : Byte} {addr : Addr}
    (hop : opcStart op = 61) {r : Cpu}
    (hr : doOp { entered op s.cpu with mcp := 66, a1 := eaUncarried addr s.cpu.x, pc := s.cpu.pc + 3, a2 := eaIndexed addr s.cpu.x, d := s.readAt 4 (eaIndexed addr s.cpu.x) } = r) :
    Ends s (runSequence [op, lo addr, hi addr] s)
      ({ r with mcp := 67 })
      (busWrite (busWrite s (eaIndexed addr s.cpu.x) (s.readAt 4 (eaIndexed addr s.cpu.x))) (eaIndexed addr s.cpu.x) r.d)
      [(s.cpu.pc, .read, op), (s.cpu.pc + 1, .read, lo addr), (s.cpu.pc + 2, .read, hi addr), (eaUncarried addr s.cpu.x, .read, s.readAt 3 (eaUncarried addr s.cpu.x)), (eaIndexed addr s.cpu.x, .read, s.readAt 4 (eaIndexed addr s.cpu.x)), (eaIndexed addr s.cpu.x, .write, s.readAt 4 (eaIndexed addr s.cpu.x)), (eaIndexed addr s.cpu.x, .write, r.d)] := by
  subst hr
  refine Ends.fetch hs 61 hop rfl fun t2 h2 => ?_
  refine h2.thenRead (lo addr) ({ entered op s.cpu with mcp := 62, a1 := setLo s.cpu.a1 (lo addr), pc := s.cpu.pc + 2 }) rfl rfl
    (by simp [tagAction, retire, Cpu.setCell, entered, addr_add_two, addr_add_three]) ⟨advance_advance _, rfl, rfl⟩ rfl fun t3 h3 => ?_
  refine h3.thenRead (hi addr) ({ entered op s.cpu with mcp := 63, a1 := eaUncarried addr s.cpu.x, pc := s.cpu.pc + 3, a2 := eaIndexed addr s.cpu.x }) rfl rfl
    (by simp [tagAction, retire, Cpu.setCell, entered, addr_add_two, addr_add_three, indexA1, eaUncarried, eaIndexed]) ⟨advance_advance _, rfl, rfl⟩ rfl fun t4 h4 => ?_
  refine h4.thenRead (s.readAt 3 (eaUncarried addr s.cpu.x)) ({ entered op s.cpu with mcp := 64, a1 := eaUncarried addr s.cpu.x, pc := s.cpu.pc + 3, a2 := eaIndexed addr s.cpu.x, d := s.readAt 3 (eaUncarried addr s.cpu.x) }) rfl rfl
    (by simp [tagAction, retire, Cpu.setCell, entered, addr_add_two, addr_add_three]) ⟨advance_advance _, rfl, rfl⟩ rfl fun t5 h5 => ?_
  refine h5.thenRead (s.readAt 4 (eaIndexed addr s.cpu.x)) ({ entered op s.cpu with mcp := 65, a1 := eaUncarried addr s.cpu.x, pc := s.cpu.pc + 3, a2 := eaIndexed addr s.cpu.x, d := s.readAt 4 (eaIndexed addr s.cpu.x) }) rfl rfl
    (by simp [tagAction, retire, Cpu.setCell, entered, addr_add_two, addr_add_three]) ⟨advance_advance _, rfl, rfl⟩ rfl fun t6 h6 => ?_
  refine h6.thenWrite ({ { entered op s.cpu with mcp := 66, a1 := eaUncarried addr s.cpu.x, pc := s.cpu.pc + 3, a2 := eaIndexed addr s.cpu.x, d := s.readAt 4 (eaIndexed addr s.cpu.x) } with a := (doOp { entered op s.cpu with mcp := 66, a1 := eaUncarried addr s.cpu.x, pc := s.cpu.pc + 3, a2 := eaIndexed addr s.cpu.x, d := s.readAt 4 (eaIndexed addr s.cpu.x) }).a, x := (doOp { entered op s.cpu with mcp := 66, a1 := eaUncarried addr s.cpu.x, pc := s.cpu.pc + 3, a2 := eaIndexed addr s.cpu.x, d := s.readAt 4 (eaIndexed addr s.cpu.x) }).x, y := (doOp { entered op s.cpu with mcp := 66, a1 := eaUncarried addr s.cpu.x, pc := s.cpu.pc + 3, a2 := eaIndexed addr s.cpu.x, d := s.readAt 4 (eaIndexed addr s.cpu.x) }).y, p := (doOp { entered op s.cpu with mcp := 66, a1 := eaUncarried addr s.cpu.x, pc := s.cpu.pc + 3, a2 := eaIndexed addr s.cpu.x, d := s.readAt 4 (eaIndexed addr s.cpu.x) }).p, d := (doOp { entered op s.cpu with mcp := 66, a1 := eaUncarried addr s.cpu.x, pc := s.cpu.pc + 3, a2 := eaIndexed addr s.cpu.x, d := s.readAt 4 (eaIndexed addr s.cpu.x) }).d, sp := (doOp { entered op s.cpu with mcp := 66, a1 := eaUncarried addr s.cpu.x, pc := s.cpu.pc + 3, a2 := eaIndexed addr s.cpu.x, d := s.readAt 4 (eaIndexed addr s.cpu.x) }).sp }) rfl
    (Eq.trans (b := doOp { entered op s.cpu with mcp := 66, a1 := eaUncarried addr s.cpu.x, pc := s.cpu.pc + 3, a2 := eaIndexed addr s.cpu.x, d := s.readAt 4 (eaIndexed addr s.cpu.x) }) (by simp [tagAction, retire]) (doOp_frame { entered op s.cpu with mcp := 66, a1 := eaUncarried addr s.cpu.x, pc := s.cpu.pc + 3, a2 := eaIndexed addr s.cpu.x, d := s.readAt 4 (eaIndexed addr s.cpu.x) })) ⟨advance_advance _, rfl, rfl⟩ rfl fun t7 h7 => ?_
  refine h7.lastWrite ({ doOp { entered op s.cpu with mcp := 66, a1 := eaUncarried addr s.cpu.x, pc := s.cpu.pc + 3, a2 := eaIndexed addr s.cpu.x, d := s.readAt 4 (eaIndexed addr s.cpu.x) } with mcp := 67 }) rfl
    (by simp [tagAction, retire]) ?_ rfl
  exact ⟨by simp [entered], by simp [entered], by simp [entered]⟩

/-- `ABX_SH` (rule R216): `st_sh` leaves `SP`, `D` and the write address. -/
theorem abxSh_ends {s : State} (hs : s.Ready) {op : Byte} {addr : Addr}
    (hop : opcStart op = 68) {sp : Addr} {v : Byte} {ea : Addr}
    (hst : stSh { entered op s.cpu with mcp := 71, a1 := eaUncarried addr s.cpu.x, pc := s.cpu.pc + 3, a2 := eaIndexed addr s.cpu.x, d := s.readAt 3 (eaUncarried addr s.cpu.x) } = { { entered op s.cpu with mcp := 71, a1 := eaUncarried addr s.cpu.x, pc := s.cpu.pc + 3, a2 := eaIndexed addr s.cpu.x, d := s.readAt 3 (eaUncarried addr s.cpu.x) } with sp := sp, d := v, a2 := ea }) :
    Ends s (runSequence [op, lo addr, hi addr] s)
      ({ entered op s.cpu with mcp := 72, a1 := eaUncarried addr s.cpu.x, pc := s.cpu.pc + 3, a2 := ea, sp := sp, d := v })
      (busWrite s (ea) v)
      [(s.cpu.pc, .read, op), (s.cpu.pc + 1, .read, lo addr), (s.cpu.pc + 2, .read, hi addr), (eaUncarried addr s.cpu.x, .read, s.readAt 3 (eaUncarried addr s.cpu.x)), ((ea), .write, v)] := by
  refine Ends.fetch hs 68 hop rfl fun t2 h2 => ?_
  refine h2.thenRead (lo addr) ({ entered op s.cpu with mcp := 69, a1 := setLo s.cpu.a1 (lo addr), pc := s.cpu.pc + 2 }) rfl rfl
    (by simp [tagAction, retire, Cpu.setCell, entered, addr_add_two, addr_add_three]) ⟨advance_advance _, rfl, rfl⟩ rfl fun t3 h3 => ?_
  refine h3.thenRead (hi addr) ({ entered op s.cpu with mcp := 70, a1 := eaUncarried addr s.cpu.x, pc := s.cpu.pc + 3, a2 := eaIndexed addr s.cpu.x }) rfl rfl
    (by simp [tagAction, retire, Cpu.setCell, entered, addr_add_two, addr_add_three, indexA1, eaUncarried, eaIndexed]) ⟨advance_advance _, rfl, rfl⟩ rfl fun t4 h4 => ?_
  refine h4.thenRead (s.readAt 3 (eaUncarried addr s.cpu.x)) ({ entered op s.cpu with mcp := 71, a1 := eaUncarried addr s.cpu.x, pc := s.cpu.pc + 3, a2 := ea, sp := sp, d := v }) rfl rfl
    hst ⟨advance_advance _, rfl, rfl⟩ rfl fun t5 h5 => ?_
  refine h5.lastWrite ({ entered op s.cpu with mcp := 72, a1 := eaUncarried addr s.cpu.x, pc := s.cpu.pc + 3, a2 := ea, sp := sp, d := v }) rfl
    rfl ⟨advance_advance _, rfl, rfl⟩ rfl

/-- `ABY_R` when a page is crossed (rule R215). -/
theorem abyR_cross_ends {s : State} (hs : s.Ready) {op : Byte} {addr : Addr}
    (hop : opcStart op = 73)
    (hp : pageCross addr s.cpu.y = true) :
    Ends s (runSequence [op, lo addr, hi addr] s)
      (doOp { entered op s.cpu with mcp := 77, a1 := eaUncarried addr s.cpu.y, pc := s.cpu.pc + 3, a2 := eaIndexed addr s.cpu.y, d := s.readAt 4 (eaIndexed addr s.cpu.y) })
      s
      [(s.cpu.pc, .read, op), (s.cpu.pc + 1, .read, lo addr), (s.cpu.pc + 2, .read, hi addr), (eaUncarried addr s.cpu.y, .read, s.readAt 3 (eaUncarried addr s.cpu.y)), (eaIndexed addr s.cpu.y, .read, s.readAt 4 (eaIndexed addr s.cpu.y))] := by
  refine Ends.fetch hs 73 hop rfl fun t2 h2 => ?_
  refine h2.thenRead (lo addr) ({ entered op s.cpu with mcp := 74, a1 := setLo s.cpu.a1 (lo addr), pc := s.cpu.pc + 2 }) rfl rfl
    (by simp [tagAction, retire, Cpu.setCell, entered, addr_add_two, addr_add_three]) ⟨advance_advance _, rfl, rfl⟩ rfl fun t3 h3 => ?_
  refine h3.thenRead (hi addr) ({ entered op s.cpu with mcp := 75, a1 := eaUncarried addr s.cpu.y, pc := s.cpu.pc + 3, a2 := eaIndexed addr s.cpu.y }) rfl rfl
    ((absIndex_cross (by simp [tagAction, retire, Cpu.setCell, entered, addr_add_two, addr_add_three]) hp).trans (by simp [tagAction, retire, Cpu.setCell, entered, addr_add_two, addr_add_three])) ⟨advance_advance _, rfl, rfl⟩ rfl fun t4 h4 => ?_
  refine h4.thenRead (s.readAt 3 (eaUncarried addr s.cpu.y)) ({ entered op s.cpu with mcp := 76, a1 := eaUncarried addr s.cpu.y, pc := s.cpu.pc + 3, a2 := eaIndexed addr s.cpu.y, d := s.readAt 3 (eaUncarried addr s.cpu.y) }) rfl rfl
    (by simp [tagAction, retire, Cpu.setCell, entered, addr_add_two, addr_add_three]) ⟨advance_advance _, rfl, rfl⟩ rfl fun t5 h5 => ?_
  refine h5.lastRead (s.readAt 4 (eaIndexed addr s.cpu.y)) (doOp { entered op s.cpu with mcp := 77, a1 := eaUncarried addr s.cpu.y, pc := s.cpu.pc + 3, a2 := eaIndexed addr s.cpu.y, d := s.readAt 4 (eaIndexed addr s.cpu.y) }) rfl rfl
    (by simp [tagAction, retire, Cpu.setCell, entered, addr_add_two, addr_add_three]) (Cpu.Settled.doOp ⟨advance_advance _, rfl, rfl⟩) (by rw [doOp_mcp]; rfl)

/-- `ABY_R` when no page is crossed (rule R215). -/
theorem abyR_same_ends {s : State} (hs : s.Ready) {op : Byte} {addr : Addr}
    (hop : opcStart op = 73)
    (hp : pageCross addr s.cpu.y = false) :
    Ends s (runSequence [op, lo addr, hi addr] s)
      (doOp { entered op s.cpu with mcp := 77, a1 := eaUncarried addr s.cpu.y, pc := s.cpu.pc + 3, a2 := eaIndexed addr s.cpu.y, d := s.readAt 3 (eaIndexed addr s.cpu.y) })
      s
      [(s.cpu.pc, .read, op), (s.cpu.pc + 1, .read, lo addr), (s.cpu.pc + 2, .read, hi addr), (eaIndexed addr s.cpu.y, .read, s.readAt 3 (eaIndexed addr s.cpu.y))] := by
  refine Ends.fetch hs 73 hop rfl fun t2 h2 => ?_
  refine h2.thenRead (lo addr) ({ entered op s.cpu with mcp := 74, a1 := setLo s.cpu.a1 (lo addr), pc := s.cpu.pc + 2 }) rfl rfl
    (by simp [tagAction, retire, Cpu.setCell, entered, addr_add_two, addr_add_three]) ⟨advance_advance _, rfl, rfl⟩ rfl fun t3 h3 => ?_
  refine h3.thenRead (hi addr) ({ entered op s.cpu with mcp := 76, a1 := eaUncarried addr s.cpu.y, pc := s.cpu.pc + 3, a2 := eaIndexed addr s.cpu.y }) rfl rfl
    ((absIndex_same (by simp [tagAction, retire, Cpu.setCell, entered, addr_add_two, addr_add_three]) hp).trans (by simp [tagAction, retire, Cpu.setCell, entered, addr_add_two, addr_add_three])) ⟨advance_advance _, rfl, rfl⟩ rfl fun t4 h4 => ?_
  refine h4.lastRead (s.readAt 3 (eaIndexed addr s.cpu.y)) (doOp { entered op s.cpu with mcp := 77, a1 := eaUncarried addr s.cpu.y, pc := s.cpu.pc + 3, a2 := eaIndexed addr s.cpu.y, d := s.readAt 3 (eaIndexed addr s.cpu.y) }) rfl rfl
    (by simp [tagAction, retire, Cpu.setCell, entered, addr_add_two, addr_add_three]) (Cpu.Settled.doOp ⟨advance_advance _, rfl, rfl⟩) (by rw [doOp_mcp]; rfl)

/-- `ABY_W` (rule R216). -/
theorem abyW_ends {s : State} (hs : s.Ready) {op : Byte} {addr : Addr}
    (hop : opcStart op = 78) {w : Byte}
    (hst : stReg { entered op s.cpu with mcp := 81, a1 := eaUncarried addr s.cpu.y, pc := s.cpu.pc + 3, a2 := eaIndexed addr s.cpu.y, d := s.readAt 3 (eaUncarried addr s.cpu.y) } = { { entered op s.cpu with mcp := 81, a1 := eaUncarried addr s.cpu.y, pc := s.cpu.pc + 3, a2 := eaIndexed addr s.cpu.y, d := s.readAt 3 (eaUncarried addr s.cpu.y) } with d := w }) :
    Ends s (runSequence [op, lo addr, hi addr] s)
      ({ entered op s.cpu with mcp := 82, a1 := eaUncarried addr s.cpu.y, pc := s.cpu.pc + 3, a2 := eaIndexed addr s.cpu.y, d := w })
      (busWrite s (eaIndexed addr s.cpu.y) w)
      [(s.cpu.pc, .read, op), (s.cpu.pc + 1, .read, lo addr), (s.cpu.pc + 2, .read, hi addr), (eaUncarried addr s.cpu.y, .read, s.readAt 3 (eaUncarried addr s.cpu.y)), ((eaIndexed addr s.cpu.y), .write, w)] := by
  refine Ends.fetch hs 78 hop rfl fun t2 h2 => ?_
  refine h2.thenRead (lo addr) ({ entered op s.cpu with mcp := 79, a1 := setLo s.cpu.a1 (lo addr), pc := s.cpu.pc + 2 }) rfl rfl
    (by simp [tagAction, retire, Cpu.setCell, entered, addr_add_two, addr_add_three]) ⟨advance_advance _, rfl, rfl⟩ rfl fun t3 h3 => ?_
  refine h3.thenRead (hi addr) ({ entered op s.cpu with mcp := 80, a1 := eaUncarried addr s.cpu.y, pc := s.cpu.pc + 3, a2 := eaIndexed addr s.cpu.y }) rfl rfl
    (by simp [tagAction, retire, Cpu.setCell, entered, addr_add_two, addr_add_three, indexA1, eaUncarried, eaIndexed]) ⟨advance_advance _, rfl, rfl⟩ rfl fun t4 h4 => ?_
  refine h4.thenRead (s.readAt 3 (eaUncarried addr s.cpu.y)) ({ entered op s.cpu with mcp := 81, a1 := eaUncarried addr s.cpu.y, pc := s.cpu.pc + 3, a2 := eaIndexed addr s.cpu.y, d := w }) rfl rfl
    (Eq.trans (by simp [tagAction, retire, Cpu.setCell, entered, addr_add_two, addr_add_three, indexA1, eaUncarried, eaIndexed]) hst) ⟨advance_advance _, rfl, rfl⟩ rfl fun t5 h5 => ?_
  refine h5.lastWrite ({ entered op s.cpu with mcp := 82, a1 := eaUncarried addr s.cpu.y, pc := s.cpu.pc + 3, a2 := eaIndexed addr s.cpu.y, d := w }) rfl
    rfl ⟨advance_advance _, rfl, rfl⟩ rfl

/-- `ABY_M` (rule R217). -/
theorem abyM_ends {s : State} (hs : s.Ready) {op : Byte} {addr : Addr}
    (hop : opcStart op = 83) {r : Cpu}
    (hr : doOp { entered op s.cpu with mcp := 88, a1 := eaUncarried addr s.cpu.y, pc := s.cpu.pc + 3, a2 := eaIndexed addr s.cpu.y, d := s.readAt 4 (eaIndexed addr s.cpu.y) } = r) :
    Ends s (runSequence [op, lo addr, hi addr] s)
      ({ r with mcp := 89 })
      (busWrite (busWrite s (eaIndexed addr s.cpu.y) (s.readAt 4 (eaIndexed addr s.cpu.y))) (eaIndexed addr s.cpu.y) r.d)
      [(s.cpu.pc, .read, op), (s.cpu.pc + 1, .read, lo addr), (s.cpu.pc + 2, .read, hi addr), (eaUncarried addr s.cpu.y, .read, s.readAt 3 (eaUncarried addr s.cpu.y)), (eaIndexed addr s.cpu.y, .read, s.readAt 4 (eaIndexed addr s.cpu.y)), (eaIndexed addr s.cpu.y, .write, s.readAt 4 (eaIndexed addr s.cpu.y)), (eaIndexed addr s.cpu.y, .write, r.d)] := by
  subst hr
  refine Ends.fetch hs 83 hop rfl fun t2 h2 => ?_
  refine h2.thenRead (lo addr) ({ entered op s.cpu with mcp := 84, a1 := setLo s.cpu.a1 (lo addr), pc := s.cpu.pc + 2 }) rfl rfl
    (by simp [tagAction, retire, Cpu.setCell, entered, addr_add_two, addr_add_three]) ⟨advance_advance _, rfl, rfl⟩ rfl fun t3 h3 => ?_
  refine h3.thenRead (hi addr) ({ entered op s.cpu with mcp := 85, a1 := eaUncarried addr s.cpu.y, pc := s.cpu.pc + 3, a2 := eaIndexed addr s.cpu.y }) rfl rfl
    (by simp [tagAction, retire, Cpu.setCell, entered, addr_add_two, addr_add_three, indexA1, eaUncarried, eaIndexed]) ⟨advance_advance _, rfl, rfl⟩ rfl fun t4 h4 => ?_
  refine h4.thenRead (s.readAt 3 (eaUncarried addr s.cpu.y)) ({ entered op s.cpu with mcp := 86, a1 := eaUncarried addr s.cpu.y, pc := s.cpu.pc + 3, a2 := eaIndexed addr s.cpu.y, d := s.readAt 3 (eaUncarried addr s.cpu.y) }) rfl rfl
    (by simp [tagAction, retire, Cpu.setCell, entered, addr_add_two, addr_add_three]) ⟨advance_advance _, rfl, rfl⟩ rfl fun t5 h5 => ?_
  refine h5.thenRead (s.readAt 4 (eaIndexed addr s.cpu.y)) ({ entered op s.cpu with mcp := 87, a1 := eaUncarried addr s.cpu.y, pc := s.cpu.pc + 3, a2 := eaIndexed addr s.cpu.y, d := s.readAt 4 (eaIndexed addr s.cpu.y) }) rfl rfl
    (by simp [tagAction, retire, Cpu.setCell, entered, addr_add_two, addr_add_three]) ⟨advance_advance _, rfl, rfl⟩ rfl fun t6 h6 => ?_
  refine h6.thenWrite ({ { entered op s.cpu with mcp := 88, a1 := eaUncarried addr s.cpu.y, pc := s.cpu.pc + 3, a2 := eaIndexed addr s.cpu.y, d := s.readAt 4 (eaIndexed addr s.cpu.y) } with a := (doOp { entered op s.cpu with mcp := 88, a1 := eaUncarried addr s.cpu.y, pc := s.cpu.pc + 3, a2 := eaIndexed addr s.cpu.y, d := s.readAt 4 (eaIndexed addr s.cpu.y) }).a, x := (doOp { entered op s.cpu with mcp := 88, a1 := eaUncarried addr s.cpu.y, pc := s.cpu.pc + 3, a2 := eaIndexed addr s.cpu.y, d := s.readAt 4 (eaIndexed addr s.cpu.y) }).x, y := (doOp { entered op s.cpu with mcp := 88, a1 := eaUncarried addr s.cpu.y, pc := s.cpu.pc + 3, a2 := eaIndexed addr s.cpu.y, d := s.readAt 4 (eaIndexed addr s.cpu.y) }).y, p := (doOp { entered op s.cpu with mcp := 88, a1 := eaUncarried addr s.cpu.y, pc := s.cpu.pc + 3, a2 := eaIndexed addr s.cpu.y, d := s.readAt 4 (eaIndexed addr s.cpu.y) }).p, d := (doOp { entered op s.cpu with mcp := 88, a1 := eaUncarried addr s.cpu.y, pc := s.cpu.pc + 3, a2 := eaIndexed addr s.cpu.y, d := s.readAt 4 (eaIndexed addr s.cpu.y) }).d, sp := (doOp { entered op s.cpu with mcp := 88, a1 := eaUncarried addr s.cpu.y, pc := s.cpu.pc + 3, a2 := eaIndexed addr s.cpu.y, d := s.readAt 4 (eaIndexed addr s.cpu.y) }).sp }) rfl
    (Eq.trans (b := doOp { entered op s.cpu with mcp := 88, a1 := eaUncarried addr s.cpu.y, pc := s.cpu.pc + 3, a2 := eaIndexed addr s.cpu.y, d := s.readAt 4 (eaIndexed addr s.cpu.y) }) (by simp [tagAction, retire]) (doOp_frame { entered op s.cpu with mcp := 88, a1 := eaUncarried addr s.cpu.y, pc := s.cpu.pc + 3, a2 := eaIndexed addr s.cpu.y, d := s.readAt 4 (eaIndexed addr s.cpu.y) })) ⟨advance_advance _, rfl, rfl⟩ rfl fun t7 h7 => ?_
  refine h7.lastWrite ({ doOp { entered op s.cpu with mcp := 88, a1 := eaUncarried addr s.cpu.y, pc := s.cpu.pc + 3, a2 := eaIndexed addr s.cpu.y, d := s.readAt 4 (eaIndexed addr s.cpu.y) } with mcp := 89 }) rfl
    (by simp [tagAction, retire]) ?_ rfl
  exact ⟨by simp [entered], by simp [entered], by simp [entered]⟩

/-- `ABY_SH` (rule R216): `st_sh` leaves `SP`, `D` and the write address. -/
theorem abySh_ends {s : State} (hs : s.Ready) {op : Byte} {addr : Addr}
    (hop : opcStart op = 90) {sp : Addr} {v : Byte} {ea : Addr}
    (hst : stSh { entered op s.cpu with mcp := 93, a1 := eaUncarried addr s.cpu.y, pc := s.cpu.pc + 3, a2 := eaIndexed addr s.cpu.y, d := s.readAt 3 (eaUncarried addr s.cpu.y) } = { { entered op s.cpu with mcp := 93, a1 := eaUncarried addr s.cpu.y, pc := s.cpu.pc + 3, a2 := eaIndexed addr s.cpu.y, d := s.readAt 3 (eaUncarried addr s.cpu.y) } with sp := sp, d := v, a2 := ea }) :
    Ends s (runSequence [op, lo addr, hi addr] s)
      ({ entered op s.cpu with mcp := 94, a1 := eaUncarried addr s.cpu.y, pc := s.cpu.pc + 3, a2 := ea, sp := sp, d := v })
      (busWrite s (ea) v)
      [(s.cpu.pc, .read, op), (s.cpu.pc + 1, .read, lo addr), (s.cpu.pc + 2, .read, hi addr), (eaUncarried addr s.cpu.y, .read, s.readAt 3 (eaUncarried addr s.cpu.y)), ((ea), .write, v)] := by
  refine Ends.fetch hs 90 hop rfl fun t2 h2 => ?_
  refine h2.thenRead (lo addr) ({ entered op s.cpu with mcp := 91, a1 := setLo s.cpu.a1 (lo addr), pc := s.cpu.pc + 2 }) rfl rfl
    (by simp [tagAction, retire, Cpu.setCell, entered, addr_add_two, addr_add_three]) ⟨advance_advance _, rfl, rfl⟩ rfl fun t3 h3 => ?_
  refine h3.thenRead (hi addr) ({ entered op s.cpu with mcp := 92, a1 := eaUncarried addr s.cpu.y, pc := s.cpu.pc + 3, a2 := eaIndexed addr s.cpu.y }) rfl rfl
    (by simp [tagAction, retire, Cpu.setCell, entered, addr_add_two, addr_add_three, indexA1, eaUncarried, eaIndexed]) ⟨advance_advance _, rfl, rfl⟩ rfl fun t4 h4 => ?_
  refine h4.thenRead (s.readAt 3 (eaUncarried addr s.cpu.y)) ({ entered op s.cpu with mcp := 93, a1 := eaUncarried addr s.cpu.y, pc := s.cpu.pc + 3, a2 := ea, sp := sp, d := v }) rfl rfl
    hst ⟨advance_advance _, rfl, rfl⟩ rfl fun t5 h5 => ?_
  refine h5.lastWrite ({ entered op s.cpu with mcp := 94, a1 := eaUncarried addr s.cpu.y, pc := s.cpu.pc + 3, a2 := ea, sp := sp, d := v }) rfl
    rfl ⟨advance_advance _, rfl, rfl⟩ rfl

/-- `IZX_R` (rule R218). -/
theorem izxR_ends {s : State} (hs : s.Ready) (hz : hi s.cpu.zpa = 0x00) {op : Byte} {zp : Byte}
    (hop : opcStart op = 95) :
    Ends s (runSequence [op, zp] s)
      (doOp { entered op s.cpu with mcp := 100, zpa := eaZpIndexed (zp + 1) s.cpu.x, pc := s.cpu.pc + 2, d := s.readAt 5 (pointerX s zp), a1 := pointerX s zp })
      s
      [(s.cpu.pc, .read, op), (s.cpu.pc + 1, .read, zp), (eaZp zp, .read, s.readAt 2 (eaZp zp)), (eaZpIndexed zp s.cpu.x, .read, s.readAt 3 (eaZpIndexed zp s.cpu.x)), (eaZpIndexed (zp + 1) s.cpu.x, .read, s.readAt 4 (eaZpIndexed (zp + 1) s.cpu.x)), (pointerX s zp, .read, s.readAt 5 (pointerX s zp))] := by
  refine Ends.fetch hs 95 hop rfl fun t2 h2 => ?_
  refine h2.thenRead (zp) ({ entered op s.cpu with mcp := 96, zpa := eaZp zp, pc := s.cpu.pc + 2 }) rfl rfl
    (by simp [tagAction, retire, Cpu.setCell, entered, setLo_of_page0 hz, addr_add_two, addr_add_three, eaZp]) ⟨advance_advance _, rfl, rfl⟩ rfl fun t3 h3 => ?_
  refine h3.thenRead (s.readAt 2 (eaZp zp)) ({ entered op s.cpu with mcp := 97, zpa := eaZpIndexed zp s.cpu.x, pc := s.cpu.pc + 2, d := s.readAt 2 (eaZp zp) }) rfl rfl
    (by simp [tagAction, retire, Cpu.setCell, entered, setLo_of_page0 hz, addr_add_two, addr_add_three, eaZp, eaZpIndexed, zpX]) ⟨advance_advance _, rfl, rfl⟩ rfl fun t4 h4 => ?_
  refine h4.thenRead (s.readAt 3 (eaZpIndexed zp s.cpu.x)) ({ entered op s.cpu with mcp := 98, zpa := eaZpIndexed (zp + 1) s.cpu.x, pc := s.cpu.pc + 2, d := s.readAt 2 (eaZp zp), a1 := setLo s.cpu.a1 (s.readAt 3 (eaZpIndexed zp s.cpu.x)) }) rfl rfl
    (by simp [tagAction, retire, Cpu.setCell, entered, setLo_of_page0 hz, addr_add_two, addr_add_three, eaZpIndexed, incZpa, byte_add_swap]) ⟨advance_advance _, rfl, rfl⟩ rfl fun t5 h5 => ?_
  refine h5.thenRead (s.readAt 4 (eaZpIndexed (zp + 1) s.cpu.x)) ({ entered op s.cpu with mcp := 99, zpa := eaZpIndexed (zp + 1) s.cpu.x, pc := s.cpu.pc + 2, d := s.readAt 2 (eaZp zp), a1 := pointerX s zp }) rfl rfl
    (by simp [tagAction, retire, Cpu.setCell, entered, setLo_of_page0 hz, addr_add_two, addr_add_three, pointerX]) ⟨advance_advance _, rfl, rfl⟩ rfl fun t6 h6 => ?_
  refine h6.lastRead (s.readAt 5 (pointerX s zp)) (doOp { entered op s.cpu with mcp := 100, zpa := eaZpIndexed (zp + 1) s.cpu.x, pc := s.cpu.pc + 2, d := s.readAt 5 (pointerX s zp), a1 := pointerX s zp }) rfl rfl
    (by simp [tagAction, retire, Cpu.setCell, entered, setLo_of_page0 hz, addr_add_two, addr_add_three]) (Cpu.Settled.doOp ⟨advance_advance _, rfl, rfl⟩) (by rw [doOp_mcp]; rfl)

/-- `IZX_W` (rule R218). -/
theorem izxW_ends {s : State} (hs : s.Ready) (hz : hi s.cpu.zpa = 0x00) {op : Byte} {zp : Byte}
    (hop : opcStart op = 101) {w : Byte}
    (hst : stReg { entered op s.cpu with mcp := 105, zpa := eaZpIndexed (zp + 1) s.cpu.x, pc := s.cpu.pc + 2, d := s.readAt 2 (eaZp zp), a1 := pointerX s zp } = { { entered op s.cpu with mcp := 105, zpa := eaZpIndexed (zp + 1) s.cpu.x, pc := s.cpu.pc + 2, d := s.readAt 2 (eaZp zp), a1 := pointerX s zp } with d := w }) :
    Ends s (runSequence [op, zp] s)
      ({ entered op s.cpu with mcp := 106, zpa := eaZpIndexed (zp + 1) s.cpu.x, pc := s.cpu.pc + 2, d := w, a1 := pointerX s zp })
      (busWrite s (pointerX s zp) w)
      [(s.cpu.pc, .read, op), (s.cpu.pc + 1, .read, zp), (eaZp zp, .read, s.readAt 2 (eaZp zp)), (eaZpIndexed zp s.cpu.x, .read, s.readAt 3 (eaZpIndexed zp s.cpu.x)), (eaZpIndexed (zp + 1) s.cpu.x, .read, s.readAt 4 (eaZpIndexed (zp + 1) s.cpu.x)), ((pointerX s zp), .write, w)] := by
  refine Ends.fetch hs 101 hop rfl fun t2 h2 => ?_
  refine h2.thenRead (zp) ({ entered op s.cpu with mcp := 102, zpa := eaZp zp, pc := s.cpu.pc + 2 }) rfl rfl
    (by simp [tagAction, retire, Cpu.setCell, entered, setLo_of_page0 hz, addr_add_two, addr_add_three, eaZp]) ⟨advance_advance _, rfl, rfl⟩ rfl fun t3 h3 => ?_
  refine h3.thenRead (s.readAt 2 (eaZp zp)) ({ entered op s.cpu with mcp := 103, zpa := eaZpIndexed zp s.cpu.x, pc := s.cpu.pc + 2, d := s.readAt 2 (eaZp zp) }) rfl rfl
    (by simp [tagAction, retire, Cpu.setCell, entered, setLo_of_page0 hz, addr_add_two, addr_add_three, eaZp, eaZpIndexed, zpX]) ⟨advance_advance _, rfl, rfl⟩ rfl fun t4 h4 => ?_
  refine h4.thenRead (s.readAt 3 (eaZpIndexed zp s.cpu.x)) ({ entered op s.cpu with mcp := 104, zpa := eaZpIndexed (zp + 1) s.cpu.x, pc := s.cpu.pc + 2, d := s.readAt 2 (eaZp zp), a1 := setLo s.cpu.a1 (s.readAt 3 (eaZpIndexed zp s.cpu.x)) }) rfl rfl
    (by simp [tagAction, retire, Cpu.setCell, entered, setLo_of_page0 hz, addr_add_two, addr_add_three, eaZpIndexed, incZpa, byte_add_swap]) ⟨advance_advance _, rfl, rfl⟩ rfl fun t5 h5 => ?_
  refine h5.thenRead (s.readAt 4 (eaZpIndexed (zp + 1) s.cpu.x)) ({ entered op s.cpu with mcp := 105, zpa := eaZpIndexed (zp + 1) s.cpu.x, pc := s.cpu.pc + 2, d := w, a1 := pointerX s zp }) rfl rfl
    (Eq.trans (by simp [tagAction, retire, Cpu.setCell, entered, setLo_of_page0 hz, addr_add_two, addr_add_three, pointerX]) hst) ⟨advance_advance _, rfl, rfl⟩ rfl fun t6 h6 => ?_
  refine h6.lastWrite ({ entered op s.cpu with mcp := 106, zpa := eaZpIndexed (zp + 1) s.cpu.x, pc := s.cpu.pc + 2, d := w, a1 := pointerX s zp }) rfl
    rfl ⟨advance_advance _, rfl, rfl⟩ rfl

/-- `IZX_M` (rule R218). -/
theorem izxM_ends {s : State} (hs : s.Ready) (hz : hi s.cpu.zpa = 0x00) {op : Byte} {zp : Byte}
    (hop : opcStart op = 107) {r : Cpu}
    (hr : doOp { entered op s.cpu with mcp := 113, zpa := eaZpIndexed (zp + 1) s.cpu.x, pc := s.cpu.pc + 2, d := s.readAt 5 (pointerX s zp), a1 := pointerX s zp } = r) :
    Ends s (runSequence [op, zp] s)
      ({ r with mcp := 114 })
      (busWrite (busWrite s (pointerX s zp) (s.readAt 5 (pointerX s zp))) (pointerX s zp) r.d)
      [(s.cpu.pc, .read, op), (s.cpu.pc + 1, .read, zp), (eaZp zp, .read, s.readAt 2 (eaZp zp)), (eaZpIndexed zp s.cpu.x, .read, s.readAt 3 (eaZpIndexed zp s.cpu.x)), (eaZpIndexed (zp + 1) s.cpu.x, .read, s.readAt 4 (eaZpIndexed (zp + 1) s.cpu.x)), (pointerX s zp, .read, s.readAt 5 (pointerX s zp)), (pointerX s zp, .write, s.readAt 5 (pointerX s zp)), (pointerX s zp, .write, r.d)] := by
  subst hr
  refine Ends.fetch hs 107 hop rfl fun t2 h2 => ?_
  refine h2.thenRead (zp) ({ entered op s.cpu with mcp := 108, zpa := eaZp zp, pc := s.cpu.pc + 2 }) rfl rfl
    (by simp [tagAction, retire, Cpu.setCell, entered, setLo_of_page0 hz, addr_add_two, addr_add_three, eaZp]) ⟨advance_advance _, rfl, rfl⟩ rfl fun t3 h3 => ?_
  refine h3.thenRead (s.readAt 2 (eaZp zp)) ({ entered op s.cpu with mcp := 109, zpa := eaZpIndexed zp s.cpu.x, pc := s.cpu.pc + 2, d := s.readAt 2 (eaZp zp) }) rfl rfl
    (by simp [tagAction, retire, Cpu.setCell, entered, setLo_of_page0 hz, addr_add_two, addr_add_three, eaZp, eaZpIndexed, zpX]) ⟨advance_advance _, rfl, rfl⟩ rfl fun t4 h4 => ?_
  refine h4.thenRead (s.readAt 3 (eaZpIndexed zp s.cpu.x)) ({ entered op s.cpu with mcp := 110, zpa := eaZpIndexed (zp + 1) s.cpu.x, pc := s.cpu.pc + 2, d := s.readAt 2 (eaZp zp), a1 := setLo s.cpu.a1 (s.readAt 3 (eaZpIndexed zp s.cpu.x)) }) rfl rfl
    (by simp [tagAction, retire, Cpu.setCell, entered, setLo_of_page0 hz, addr_add_two, addr_add_three, eaZpIndexed, incZpa, byte_add_swap]) ⟨advance_advance _, rfl, rfl⟩ rfl fun t5 h5 => ?_
  refine h5.thenRead (s.readAt 4 (eaZpIndexed (zp + 1) s.cpu.x)) ({ entered op s.cpu with mcp := 111, zpa := eaZpIndexed (zp + 1) s.cpu.x, pc := s.cpu.pc + 2, d := s.readAt 2 (eaZp zp), a1 := pointerX s zp }) rfl rfl
    (by simp [tagAction, retire, Cpu.setCell, entered, setLo_of_page0 hz, addr_add_two, addr_add_three, pointerX]) ⟨advance_advance _, rfl, rfl⟩ rfl fun t6 h6 => ?_
  refine h6.thenRead (s.readAt 5 (pointerX s zp)) ({ entered op s.cpu with mcp := 112, zpa := eaZpIndexed (zp + 1) s.cpu.x, pc := s.cpu.pc + 2, d := s.readAt 5 (pointerX s zp), a1 := pointerX s zp }) rfl rfl
    (by simp [tagAction, retire, Cpu.setCell, entered, setLo_of_page0 hz, addr_add_two, addr_add_three]) ⟨advance_advance _, rfl, rfl⟩ rfl fun t7 h7 => ?_
  refine h7.thenWrite ({ { entered op s.cpu with mcp := 113, zpa := eaZpIndexed (zp + 1) s.cpu.x, pc := s.cpu.pc + 2, d := s.readAt 5 (pointerX s zp), a1 := pointerX s zp } with a := (doOp { entered op s.cpu with mcp := 113, zpa := eaZpIndexed (zp + 1) s.cpu.x, pc := s.cpu.pc + 2, d := s.readAt 5 (pointerX s zp), a1 := pointerX s zp }).a, x := (doOp { entered op s.cpu with mcp := 113, zpa := eaZpIndexed (zp + 1) s.cpu.x, pc := s.cpu.pc + 2, d := s.readAt 5 (pointerX s zp), a1 := pointerX s zp }).x, y := (doOp { entered op s.cpu with mcp := 113, zpa := eaZpIndexed (zp + 1) s.cpu.x, pc := s.cpu.pc + 2, d := s.readAt 5 (pointerX s zp), a1 := pointerX s zp }).y, p := (doOp { entered op s.cpu with mcp := 113, zpa := eaZpIndexed (zp + 1) s.cpu.x, pc := s.cpu.pc + 2, d := s.readAt 5 (pointerX s zp), a1 := pointerX s zp }).p, d := (doOp { entered op s.cpu with mcp := 113, zpa := eaZpIndexed (zp + 1) s.cpu.x, pc := s.cpu.pc + 2, d := s.readAt 5 (pointerX s zp), a1 := pointerX s zp }).d, sp := (doOp { entered op s.cpu with mcp := 113, zpa := eaZpIndexed (zp + 1) s.cpu.x, pc := s.cpu.pc + 2, d := s.readAt 5 (pointerX s zp), a1 := pointerX s zp }).sp }) rfl
    (Eq.trans (b := doOp { entered op s.cpu with mcp := 113, zpa := eaZpIndexed (zp + 1) s.cpu.x, pc := s.cpu.pc + 2, d := s.readAt 5 (pointerX s zp), a1 := pointerX s zp }) (by simp [tagAction, retire]) (doOp_frame { entered op s.cpu with mcp := 113, zpa := eaZpIndexed (zp + 1) s.cpu.x, pc := s.cpu.pc + 2, d := s.readAt 5 (pointerX s zp), a1 := pointerX s zp })) ⟨advance_advance _, rfl, rfl⟩ rfl fun t8 h8 => ?_
  refine h8.lastWrite ({ doOp { entered op s.cpu with mcp := 113, zpa := eaZpIndexed (zp + 1) s.cpu.x, pc := s.cpu.pc + 2, d := s.readAt 5 (pointerX s zp), a1 := pointerX s zp } with mcp := 114 }) rfl
    (by simp [tagAction, retire]) ?_ rfl
  exact ⟨by simp [entered], by simp [entered], by simp [entered]⟩

/-- `IZY_R`, page crossed: true (rule R219). -/
theorem izyR_cross_ends {s : State} (hs : s.Ready) (hz : hi s.cpu.zpa = 0x00) {op : Byte} {zp : Byte}
    (hop : opcStart op = 115)
    (hp : pageCross (pointerY s zp) s.cpu.y = true) :
    Ends s (runSequence [op, zp] s)
      (doOp { entered op s.cpu with mcp := 120, zpa := eaZp (zp + 1), pc := s.cpu.pc + 2, a1 := eaUncarried (pointerY s zp) s.cpu.y, a2 := eaIndexed (pointerY s zp) s.cpu.y, d := s.readAt 5 (eaIndexed (pointerY s zp) s.cpu.y) })
      s
      [(s.cpu.pc, .read, op), (s.cpu.pc + 1, .read, zp), (eaZp zp, .read, s.readAt 2 (eaZp zp)), (eaZp (zp + 1), .read, s.readAt 3 (eaZp (zp + 1))), (eaUncarried (pointerY s zp) s.cpu.y, .read, s.readAt 4 (eaUncarried (pointerY s zp) s.cpu.y)), (eaIndexed (pointerY s zp) s.cpu.y, .read, s.readAt 5 (eaIndexed (pointerY s zp) s.cpu.y))] := by
  refine Ends.fetch hs 115 hop rfl fun t2 h2 => ?_
  refine h2.thenRead (zp) ({ entered op s.cpu with mcp := 116, zpa := eaZp zp, pc := s.cpu.pc + 2 }) rfl rfl
    (by simp [tagAction, retire, Cpu.setCell, entered, setLo_of_page0 hz, addr_add_two, addr_add_three, eaZp]) ⟨advance_advance _, rfl, rfl⟩ rfl fun t3 h3 => ?_
  refine h3.thenRead (s.readAt 2 (eaZp zp)) ({ entered op s.cpu with mcp := 117, zpa := eaZp (zp + 1), pc := s.cpu.pc + 2, a1 := setLo s.cpu.a1 (s.readAt 2 (eaZp zp)) }) rfl rfl
    (by simp [tagAction, retire, Cpu.setCell, entered, setLo_of_page0 hz, addr_add_two, addr_add_three, eaZp, incZpa]) ⟨advance_advance _, rfl, rfl⟩ rfl fun t4 h4 => ?_
  refine h4.thenRead (s.readAt 3 (eaZp (zp + 1))) ({ entered op s.cpu with mcp := 118, zpa := eaZp (zp + 1), pc := s.cpu.pc + 2, a1 := eaUncarried (pointerY s zp) s.cpu.y, a2 := eaIndexed (pointerY s zp) s.cpu.y }) rfl rfl
    ((absIndex_cross (by simp [tagAction, retire, Cpu.setCell, entered, setLo_of_page0 hz, addr_add_two, addr_add_three, pointerY]) hp).trans (by simp [tagAction, retire, Cpu.setCell, entered, setLo_of_page0 hz, addr_add_two, addr_add_three])) ⟨advance_advance _, rfl, rfl⟩ rfl fun t5 h5 => ?_
  refine h5.thenRead (s.readAt 4 (eaUncarried (pointerY s zp) s.cpu.y)) ({ entered op s.cpu with mcp := 119, zpa := eaZp (zp + 1), pc := s.cpu.pc + 2, a1 := eaUncarried (pointerY s zp) s.cpu.y, a2 := eaIndexed (pointerY s zp) s.cpu.y, d := s.readAt 4 (eaUncarried (pointerY s zp) s.cpu.y) }) rfl rfl
    (by simp [tagAction, retire, Cpu.setCell, entered, setLo_of_page0 hz, addr_add_two, addr_add_three]) ⟨advance_advance _, rfl, rfl⟩ rfl fun t6 h6 => ?_
  refine h6.lastRead (s.readAt 5 (eaIndexed (pointerY s zp) s.cpu.y)) (doOp { entered op s.cpu with mcp := 120, zpa := eaZp (zp + 1), pc := s.cpu.pc + 2, a1 := eaUncarried (pointerY s zp) s.cpu.y, a2 := eaIndexed (pointerY s zp) s.cpu.y, d := s.readAt 5 (eaIndexed (pointerY s zp) s.cpu.y) }) rfl rfl
    (by simp [tagAction, retire, Cpu.setCell, entered, setLo_of_page0 hz, addr_add_two, addr_add_three]) (Cpu.Settled.doOp ⟨advance_advance _, rfl, rfl⟩) (by rw [doOp_mcp]; rfl)

/-- `IZY_R`, page crossed: false (rule R219). -/
theorem izyR_same_ends {s : State} (hs : s.Ready) (hz : hi s.cpu.zpa = 0x00) {op : Byte} {zp : Byte}
    (hop : opcStart op = 115)
    (hp : pageCross (pointerY s zp) s.cpu.y = false) :
    Ends s (runSequence [op, zp] s)
      (doOp { entered op s.cpu with mcp := 120, zpa := eaZp (zp + 1), pc := s.cpu.pc + 2, a1 := eaUncarried (pointerY s zp) s.cpu.y, a2 := eaIndexed (pointerY s zp) s.cpu.y, d := s.readAt 4 (eaIndexed (pointerY s zp) s.cpu.y) })
      s
      [(s.cpu.pc, .read, op), (s.cpu.pc + 1, .read, zp), (eaZp zp, .read, s.readAt 2 (eaZp zp)), (eaZp (zp + 1), .read, s.readAt 3 (eaZp (zp + 1))), (eaIndexed (pointerY s zp) s.cpu.y, .read, s.readAt 4 (eaIndexed (pointerY s zp) s.cpu.y))] := by
  refine Ends.fetch hs 115 hop rfl fun t2 h2 => ?_
  refine h2.thenRead (zp) ({ entered op s.cpu with mcp := 116, zpa := eaZp zp, pc := s.cpu.pc + 2 }) rfl rfl
    (by simp [tagAction, retire, Cpu.setCell, entered, setLo_of_page0 hz, addr_add_two, addr_add_three, eaZp]) ⟨advance_advance _, rfl, rfl⟩ rfl fun t3 h3 => ?_
  refine h3.thenRead (s.readAt 2 (eaZp zp)) ({ entered op s.cpu with mcp := 117, zpa := eaZp (zp + 1), pc := s.cpu.pc + 2, a1 := setLo s.cpu.a1 (s.readAt 2 (eaZp zp)) }) rfl rfl
    (by simp [tagAction, retire, Cpu.setCell, entered, setLo_of_page0 hz, addr_add_two, addr_add_three, eaZp, incZpa]) ⟨advance_advance _, rfl, rfl⟩ rfl fun t4 h4 => ?_
  refine h4.thenRead (s.readAt 3 (eaZp (zp + 1))) ({ entered op s.cpu with mcp := 119, zpa := eaZp (zp + 1), pc := s.cpu.pc + 2, a1 := eaUncarried (pointerY s zp) s.cpu.y, a2 := eaIndexed (pointerY s zp) s.cpu.y }) rfl rfl
    ((absIndex_same (by simp [tagAction, retire, Cpu.setCell, entered, setLo_of_page0 hz, addr_add_two, addr_add_three, pointerY]) hp).trans (by simp [tagAction, retire, Cpu.setCell, entered, setLo_of_page0 hz, addr_add_two, addr_add_three])) ⟨advance_advance _, rfl, rfl⟩ rfl fun t5 h5 => ?_
  refine h5.lastRead (s.readAt 4 (eaIndexed (pointerY s zp) s.cpu.y)) (doOp { entered op s.cpu with mcp := 120, zpa := eaZp (zp + 1), pc := s.cpu.pc + 2, a1 := eaUncarried (pointerY s zp) s.cpu.y, a2 := eaIndexed (pointerY s zp) s.cpu.y, d := s.readAt 4 (eaIndexed (pointerY s zp) s.cpu.y) }) rfl rfl
    (by simp [tagAction, retire, Cpu.setCell, entered, setLo_of_page0 hz, addr_add_two, addr_add_three]) (Cpu.Settled.doOp ⟨advance_advance _, rfl, rfl⟩) (by rw [doOp_mcp]; rfl)

/-- `IZY_W` (rule R220). -/
theorem izyW_ends {s : State} (hs : s.Ready) (hz : hi s.cpu.zpa = 0x00) {op : Byte} {zp : Byte}
    (hop : opcStart op = 121) {w : Byte}
    (hst : stReg { entered op s.cpu with mcp := 125, zpa := eaZp (zp + 1), pc := s.cpu.pc + 2, a1 := eaUncarried (pointerY s zp) s.cpu.y, a2 := eaIndexed (pointerY s zp) s.cpu.y, d := s.readAt 4 (eaUncarried (pointerY s zp) s.cpu.y) } = { { entered op s.cpu with mcp := 125, zpa := eaZp (zp + 1), pc := s.cpu.pc + 2, a1 := eaUncarried (pointerY s zp) s.cpu.y, a2 := eaIndexed (pointerY s zp) s.cpu.y, d := s.readAt 4 (eaUncarried (pointerY s zp) s.cpu.y) } with d := w }) :
    Ends s (runSequence [op, zp] s)
      ({ entered op s.cpu with mcp := 126, zpa := eaZp (zp + 1), pc := s.cpu.pc + 2, a1 := eaUncarried (pointerY s zp) s.cpu.y, a2 := eaIndexed (pointerY s zp) s.cpu.y, d := w })
      (busWrite s (eaIndexed (pointerY s zp) s.cpu.y) w)
      [(s.cpu.pc, .read, op), (s.cpu.pc + 1, .read, zp), (eaZp zp, .read, s.readAt 2 (eaZp zp)), (eaZp (zp + 1), .read, s.readAt 3 (eaZp (zp + 1))), (eaUncarried (pointerY s zp) s.cpu.y, .read, s.readAt 4 (eaUncarried (pointerY s zp) s.cpu.y)), ((eaIndexed (pointerY s zp) s.cpu.y), .write, w)] := by
  refine Ends.fetch hs 121 hop rfl fun t2 h2 => ?_
  refine h2.thenRead (zp) ({ entered op s.cpu with mcp := 122, zpa := eaZp zp, pc := s.cpu.pc + 2 }) rfl rfl
    (by simp [tagAction, retire, Cpu.setCell, entered, setLo_of_page0 hz, addr_add_two, addr_add_three, eaZp]) ⟨advance_advance _, rfl, rfl⟩ rfl fun t3 h3 => ?_
  refine h3.thenRead (s.readAt 2 (eaZp zp)) ({ entered op s.cpu with mcp := 123, zpa := eaZp (zp + 1), pc := s.cpu.pc + 2, a1 := setLo s.cpu.a1 (s.readAt 2 (eaZp zp)) }) rfl rfl
    (by simp [tagAction, retire, Cpu.setCell, entered, setLo_of_page0 hz, addr_add_two, addr_add_three, eaZp, incZpa]) ⟨advance_advance _, rfl, rfl⟩ rfl fun t4 h4 => ?_
  refine h4.thenRead (s.readAt 3 (eaZp (zp + 1))) ({ entered op s.cpu with mcp := 124, zpa := eaZp (zp + 1), pc := s.cpu.pc + 2, a1 := eaUncarried (pointerY s zp) s.cpu.y, a2 := eaIndexed (pointerY s zp) s.cpu.y }) rfl rfl
    (by simp [tagAction, retire, Cpu.setCell, entered, setLo_of_page0 hz, addr_add_two, addr_add_three, indexA1, eaUncarried, eaIndexed, pointerY]) ⟨advance_advance _, rfl, rfl⟩ rfl fun t5 h5 => ?_
  refine h5.thenRead (s.readAt 4 (eaUncarried (pointerY s zp) s.cpu.y)) ({ entered op s.cpu with mcp := 125, zpa := eaZp (zp + 1), pc := s.cpu.pc + 2, a1 := eaUncarried (pointerY s zp) s.cpu.y, a2 := eaIndexed (pointerY s zp) s.cpu.y, d := w }) rfl rfl
    (Eq.trans (by simp [tagAction, retire, Cpu.setCell, entered, setLo_of_page0 hz, addr_add_two, addr_add_three, indexA1, eaUncarried, eaIndexed, pointerY]) hst) ⟨advance_advance _, rfl, rfl⟩ rfl fun t6 h6 => ?_
  refine h6.lastWrite ({ entered op s.cpu with mcp := 126, zpa := eaZp (zp + 1), pc := s.cpu.pc + 2, a1 := eaUncarried (pointerY s zp) s.cpu.y, a2 := eaIndexed (pointerY s zp) s.cpu.y, d := w }) rfl
    rfl ⟨advance_advance _, rfl, rfl⟩ rfl

/-- `IZY_M` (rule R220). -/
theorem izyM_ends {s : State} (hs : s.Ready) (hz : hi s.cpu.zpa = 0x00) {op : Byte} {zp : Byte}
    (hop : opcStart op = 127) {r : Cpu}
    (hr : doOp { entered op s.cpu with mcp := 133, zpa := eaZp (zp + 1), pc := s.cpu.pc + 2, a1 := eaUncarried (pointerY s zp) s.cpu.y, a2 := eaIndexed (pointerY s zp) s.cpu.y, d := s.readAt 5 (eaIndexed (pointerY s zp) s.cpu.y) } = r) :
    Ends s (runSequence [op, zp] s)
      ({ r with mcp := 134 })
      (busWrite (busWrite s (eaIndexed (pointerY s zp) s.cpu.y) (s.readAt 5 (eaIndexed (pointerY s zp) s.cpu.y))) (eaIndexed (pointerY s zp) s.cpu.y) r.d)
      [(s.cpu.pc, .read, op), (s.cpu.pc + 1, .read, zp), (eaZp zp, .read, s.readAt 2 (eaZp zp)), (eaZp (zp + 1), .read, s.readAt 3 (eaZp (zp + 1))), (eaUncarried (pointerY s zp) s.cpu.y, .read, s.readAt 4 (eaUncarried (pointerY s zp) s.cpu.y)), (eaIndexed (pointerY s zp) s.cpu.y, .read, s.readAt 5 (eaIndexed (pointerY s zp) s.cpu.y)), (eaIndexed (pointerY s zp) s.cpu.y, .write, s.readAt 5 (eaIndexed (pointerY s zp) s.cpu.y)), (eaIndexed (pointerY s zp) s.cpu.y, .write, r.d)] := by
  subst hr
  refine Ends.fetch hs 127 hop rfl fun t2 h2 => ?_
  refine h2.thenRead (zp) ({ entered op s.cpu with mcp := 128, zpa := eaZp zp, pc := s.cpu.pc + 2 }) rfl rfl
    (by simp [tagAction, retire, Cpu.setCell, entered, setLo_of_page0 hz, addr_add_two, addr_add_three, eaZp]) ⟨advance_advance _, rfl, rfl⟩ rfl fun t3 h3 => ?_
  refine h3.thenRead (s.readAt 2 (eaZp zp)) ({ entered op s.cpu with mcp := 129, zpa := eaZp (zp + 1), pc := s.cpu.pc + 2, a1 := setLo s.cpu.a1 (s.readAt 2 (eaZp zp)) }) rfl rfl
    (by simp [tagAction, retire, Cpu.setCell, entered, setLo_of_page0 hz, addr_add_two, addr_add_three, eaZp, incZpa]) ⟨advance_advance _, rfl, rfl⟩ rfl fun t4 h4 => ?_
  refine h4.thenRead (s.readAt 3 (eaZp (zp + 1))) ({ entered op s.cpu with mcp := 130, zpa := eaZp (zp + 1), pc := s.cpu.pc + 2, a1 := eaUncarried (pointerY s zp) s.cpu.y, a2 := eaIndexed (pointerY s zp) s.cpu.y }) rfl rfl
    (by simp [tagAction, retire, Cpu.setCell, entered, setLo_of_page0 hz, addr_add_two, addr_add_three, indexA1, eaUncarried, eaIndexed, pointerY]) ⟨advance_advance _, rfl, rfl⟩ rfl fun t5 h5 => ?_
  refine h5.thenRead (s.readAt 4 (eaUncarried (pointerY s zp) s.cpu.y)) ({ entered op s.cpu with mcp := 131, zpa := eaZp (zp + 1), pc := s.cpu.pc + 2, a1 := eaUncarried (pointerY s zp) s.cpu.y, a2 := eaIndexed (pointerY s zp) s.cpu.y, d := s.readAt 4 (eaUncarried (pointerY s zp) s.cpu.y) }) rfl rfl
    (by simp [tagAction, retire, Cpu.setCell, entered, setLo_of_page0 hz, addr_add_two, addr_add_three]) ⟨advance_advance _, rfl, rfl⟩ rfl fun t6 h6 => ?_
  refine h6.thenRead (s.readAt 5 (eaIndexed (pointerY s zp) s.cpu.y)) ({ entered op s.cpu with mcp := 132, zpa := eaZp (zp + 1), pc := s.cpu.pc + 2, a1 := eaUncarried (pointerY s zp) s.cpu.y, a2 := eaIndexed (pointerY s zp) s.cpu.y, d := s.readAt 5 (eaIndexed (pointerY s zp) s.cpu.y) }) rfl rfl
    (by simp [tagAction, retire, Cpu.setCell, entered, setLo_of_page0 hz, addr_add_two, addr_add_three]) ⟨advance_advance _, rfl, rfl⟩ rfl fun t7 h7 => ?_
  refine h7.thenWrite ({ { entered op s.cpu with mcp := 133, zpa := eaZp (zp + 1), pc := s.cpu.pc + 2, a1 := eaUncarried (pointerY s zp) s.cpu.y, a2 := eaIndexed (pointerY s zp) s.cpu.y, d := s.readAt 5 (eaIndexed (pointerY s zp) s.cpu.y) } with a := (doOp { entered op s.cpu with mcp := 133, zpa := eaZp (zp + 1), pc := s.cpu.pc + 2, a1 := eaUncarried (pointerY s zp) s.cpu.y, a2 := eaIndexed (pointerY s zp) s.cpu.y, d := s.readAt 5 (eaIndexed (pointerY s zp) s.cpu.y) }).a, x := (doOp { entered op s.cpu with mcp := 133, zpa := eaZp (zp + 1), pc := s.cpu.pc + 2, a1 := eaUncarried (pointerY s zp) s.cpu.y, a2 := eaIndexed (pointerY s zp) s.cpu.y, d := s.readAt 5 (eaIndexed (pointerY s zp) s.cpu.y) }).x, y := (doOp { entered op s.cpu with mcp := 133, zpa := eaZp (zp + 1), pc := s.cpu.pc + 2, a1 := eaUncarried (pointerY s zp) s.cpu.y, a2 := eaIndexed (pointerY s zp) s.cpu.y, d := s.readAt 5 (eaIndexed (pointerY s zp) s.cpu.y) }).y, p := (doOp { entered op s.cpu with mcp := 133, zpa := eaZp (zp + 1), pc := s.cpu.pc + 2, a1 := eaUncarried (pointerY s zp) s.cpu.y, a2 := eaIndexed (pointerY s zp) s.cpu.y, d := s.readAt 5 (eaIndexed (pointerY s zp) s.cpu.y) }).p, d := (doOp { entered op s.cpu with mcp := 133, zpa := eaZp (zp + 1), pc := s.cpu.pc + 2, a1 := eaUncarried (pointerY s zp) s.cpu.y, a2 := eaIndexed (pointerY s zp) s.cpu.y, d := s.readAt 5 (eaIndexed (pointerY s zp) s.cpu.y) }).d, sp := (doOp { entered op s.cpu with mcp := 133, zpa := eaZp (zp + 1), pc := s.cpu.pc + 2, a1 := eaUncarried (pointerY s zp) s.cpu.y, a2 := eaIndexed (pointerY s zp) s.cpu.y, d := s.readAt 5 (eaIndexed (pointerY s zp) s.cpu.y) }).sp }) rfl
    (Eq.trans (b := doOp { entered op s.cpu with mcp := 133, zpa := eaZp (zp + 1), pc := s.cpu.pc + 2, a1 := eaUncarried (pointerY s zp) s.cpu.y, a2 := eaIndexed (pointerY s zp) s.cpu.y, d := s.readAt 5 (eaIndexed (pointerY s zp) s.cpu.y) }) (by simp [tagAction, retire]) (doOp_frame { entered op s.cpu with mcp := 133, zpa := eaZp (zp + 1), pc := s.cpu.pc + 2, a1 := eaUncarried (pointerY s zp) s.cpu.y, a2 := eaIndexed (pointerY s zp) s.cpu.y, d := s.readAt 5 (eaIndexed (pointerY s zp) s.cpu.y) })) ⟨advance_advance _, rfl, rfl⟩ rfl fun t8 h8 => ?_
  refine h8.lastWrite ({ doOp { entered op s.cpu with mcp := 133, zpa := eaZp (zp + 1), pc := s.cpu.pc + 2, a1 := eaUncarried (pointerY s zp) s.cpu.y, a2 := eaIndexed (pointerY s zp) s.cpu.y, d := s.readAt 5 (eaIndexed (pointerY s zp) s.cpu.y) } with mcp := 134 }) rfl
    (by simp [tagAction, retire]) ?_ rfl
  exact ⟨by simp [entered], by simp [entered], by simp [entered]⟩

/-- `IZY_SH` (rule R220). -/
theorem izySh_ends {s : State} (hs : s.Ready) (hz : hi s.cpu.zpa = 0x00) {op : Byte} {zp : Byte}
    (hop : opcStart op = 135) {sp : Addr} {v : Byte} {ea : Addr}
    (hst : stSh { entered op s.cpu with mcp := 139, zpa := eaZp (zp + 1), pc := s.cpu.pc + 2, a1 := eaUncarried (pointerY s zp) s.cpu.y, a2 := eaIndexed (pointerY s zp) s.cpu.y, d := s.readAt 4 (eaUncarried (pointerY s zp) s.cpu.y) } = { { entered op s.cpu with mcp := 139, zpa := eaZp (zp + 1), pc := s.cpu.pc + 2, a1 := eaUncarried (pointerY s zp) s.cpu.y, a2 := eaIndexed (pointerY s zp) s.cpu.y, d := s.readAt 4 (eaUncarried (pointerY s zp) s.cpu.y) } with sp := sp, d := v, a2 := ea }) :
    Ends s (runSequence [op, zp] s)
      ({ entered op s.cpu with mcp := 140, zpa := eaZp (zp + 1), pc := s.cpu.pc + 2, a1 := eaUncarried (pointerY s zp) s.cpu.y, a2 := ea, sp := sp, d := v })
      (busWrite s (ea) v)
      [(s.cpu.pc, .read, op), (s.cpu.pc + 1, .read, zp), (eaZp zp, .read, s.readAt 2 (eaZp zp)), (eaZp (zp + 1), .read, s.readAt 3 (eaZp (zp + 1))), (eaUncarried (pointerY s zp) s.cpu.y, .read, s.readAt 4 (eaUncarried (pointerY s zp) s.cpu.y)), ((ea), .write, v)] := by
  refine Ends.fetch hs 135 hop rfl fun t2 h2 => ?_
  refine h2.thenRead (zp) ({ entered op s.cpu with mcp := 136, zpa := eaZp zp, pc := s.cpu.pc + 2 }) rfl rfl
    (by simp [tagAction, retire, Cpu.setCell, entered, setLo_of_page0 hz, addr_add_two, addr_add_three, eaZp]) ⟨advance_advance _, rfl, rfl⟩ rfl fun t3 h3 => ?_
  refine h3.thenRead (s.readAt 2 (eaZp zp)) ({ entered op s.cpu with mcp := 137, zpa := eaZp (zp + 1), pc := s.cpu.pc + 2, a1 := setLo s.cpu.a1 (s.readAt 2 (eaZp zp)) }) rfl rfl
    (by simp [tagAction, retire, Cpu.setCell, entered, setLo_of_page0 hz, addr_add_two, addr_add_three, eaZp, incZpa]) ⟨advance_advance _, rfl, rfl⟩ rfl fun t4 h4 => ?_
  refine h4.thenRead (s.readAt 3 (eaZp (zp + 1))) ({ entered op s.cpu with mcp := 138, zpa := eaZp (zp + 1), pc := s.cpu.pc + 2, a1 := eaUncarried (pointerY s zp) s.cpu.y, a2 := eaIndexed (pointerY s zp) s.cpu.y }) rfl rfl
    (by simp [tagAction, retire, Cpu.setCell, entered, setLo_of_page0 hz, addr_add_two, addr_add_three, indexA1, eaUncarried, eaIndexed, pointerY]) ⟨advance_advance _, rfl, rfl⟩ rfl fun t5 h5 => ?_
  refine h5.thenRead (s.readAt 4 (eaUncarried (pointerY s zp) s.cpu.y)) ({ entered op s.cpu with mcp := 139, zpa := eaZp (zp + 1), pc := s.cpu.pc + 2, a1 := eaUncarried (pointerY s zp) s.cpu.y, a2 := ea, sp := sp, d := v }) rfl rfl
    hst ⟨advance_advance _, rfl, rfl⟩ rfl fun t6 h6 => ?_
  refine h6.lastWrite ({ entered op s.cpu with mcp := 140, zpa := eaZp (zp + 1), pc := s.cpu.pc + 2, a1 := eaUncarried (pointerY s zp) s.cpu.y, a2 := ea, sp := sp, d := v }) rfl
    rfl ⟨advance_advance _, rfl, rfl⟩ rfl

/-- `JMP_ABS` (rule R320). -/
theorem jmpAbs_ends {s : State} (hs : s.Ready) {op : Byte} {addr : Addr}
    (hop : opcStart op = 141) :
    Ends s (runSequence [op, lo addr, hi addr] s)
      ({ entered op s.cpu with mcp := 143, a1 := addr, pc := addr })
      s
      [(s.cpu.pc, .read, op), (s.cpu.pc + 1, .read, lo addr), (s.cpu.pc + 2, .read, hi addr)] := by
  refine Ends.fetch hs 141 hop rfl fun t2 h2 => ?_
  refine h2.thenRead (lo addr) ({ entered op s.cpu with mcp := 142, a1 := setLo s.cpu.a1 (lo addr), pc := s.cpu.pc + 2 }) rfl rfl
    (by simp [tagAction, retire, Cpu.setCell, entered, addr_add_two, addr_add_three]) ⟨advance_advance _, rfl, rfl⟩ rfl fun t3 h3 => ?_
  refine h3.lastRead (hi addr) ({ entered op s.cpu with mcp := 143, a1 := addr, pc := addr }) rfl rfl
    (by simp [tagAction, retire, Cpu.setCell, entered, addr_add_two, addr_add_three, jmpAbs]) ⟨advance_advance _, rfl, rfl⟩ rfl

/-- `JMP_IND` (rule R320). -/
theorem jmpInd_ends {s : State} (hs : s.Ready) {op : Byte} {addr : Addr}
    (hop : opcStart op = 144) :
    Ends s (runSequence [op, lo addr, hi addr] s)
      ({ entered op s.cpu with mcp := 148, a1 := setLo addr (lo addr + 1), pc := pair (s.readAt 4 (setLo addr (lo addr + 1))) (s.readAt 3 (addr)), a2 := pair (s.readAt 4 (setLo addr (lo addr + 1))) (s.readAt 3 (addr)) })
      s
      [(s.cpu.pc, .read, op), (s.cpu.pc + 1, .read, lo addr), (s.cpu.pc + 2, .read, hi addr), (addr, .read, s.readAt 3 (addr)), (setLo addr (lo addr + 1), .read, s.readAt 4 (setLo addr (lo addr + 1)))] := by
  refine Ends.fetch hs 144 hop rfl fun t2 h2 => ?_
  refine h2.thenRead (lo addr) ({ entered op s.cpu with mcp := 145, a1 := setLo s.cpu.a1 (lo addr), pc := s.cpu.pc + 2 }) rfl rfl
    (by simp [tagAction, retire, Cpu.setCell, entered, addr_add_two, addr_add_three]) ⟨advance_advance _, rfl, rfl⟩ rfl fun t3 h3 => ?_
  refine h3.thenRead (hi addr) ({ entered op s.cpu with mcp := 146, a1 := addr, pc := s.cpu.pc + 3 }) rfl rfl
    (by simp [tagAction, retire, Cpu.setCell, entered, addr_add_two, addr_add_three]) ⟨advance_advance _, rfl, rfl⟩ rfl fun t4 h4 => ?_
  refine h4.thenRead (s.readAt 3 (addr)) ({ entered op s.cpu with mcp := 147, a1 := setLo addr (lo addr + 1), pc := s.cpu.pc + 3, a2 := setLo s.cpu.a2 (s.readAt 3 (addr)) }) rfl rfl
    (by simp [tagAction, retire, Cpu.setCell, entered, addr_add_two, addr_add_three, incA1l]) ⟨advance_advance _, rfl, rfl⟩ rfl fun t5 h5 => ?_
  refine h5.lastRead (s.readAt 4 (setLo addr (lo addr + 1))) ({ entered op s.cpu with mcp := 148, a1 := setLo addr (lo addr + 1), pc := pair (s.readAt 4 (setLo addr (lo addr + 1))) (s.readAt 3 (addr)), a2 := pair (s.readAt 4 (setLo addr (lo addr + 1))) (s.readAt 3 (addr)) }) rfl rfl
    (by simp [tagAction, retire, Cpu.setCell, entered, addr_add_two, addr_add_three, jmpInd]) ⟨advance_advance _, rfl, rfl⟩ rfl

/-- `JSR` (rule R321). -/
theorem jsr_ends {s : State} (hs : s.Ready) {op : Byte} {addr : Addr}
    (hop : opcStart op = 149) :
    Ends s (runSequence [op, lo addr, hi addr] s)
      ({ entered op s.cpu with mcp := 154, a1 := addr, pc := addr, d := s.readAt 2 (s.cpu.sp), sp := setLo s.cpu.sp (s.cpu.s - 2) })
      (busWrite (busWrite s s.cpu.sp (hi (s.cpu.pc + 2))) (setLo s.cpu.sp (s.cpu.s - 1)) (lo (s.cpu.pc + 2)))
      [(s.cpu.pc, .read, op), (s.cpu.pc + 1, .read, lo addr), (s.cpu.sp, .read, s.readAt 2 (s.cpu.sp)), (s.cpu.sp, .write, (hi (s.cpu.pc + 2))), ((setLo s.cpu.sp (s.cpu.s - 1)), .write, (lo (s.cpu.pc + 2))), (s.cpu.pc + 2, .read, hi addr)] := by
  refine Ends.fetch hs 149 hop rfl fun t2 h2 => ?_
  refine h2.thenRead (lo addr) ({ entered op s.cpu with mcp := 150, a1 := setLo s.cpu.a1 (lo addr), pc := s.cpu.pc + 2 }) rfl rfl
    (by simp [tagAction, retire, Cpu.setCell, entered, addr_add_two, addr_add_three]) ⟨advance_advance _, rfl, rfl⟩ rfl fun t3 h3 => ?_
  refine h3.thenRead (s.readAt 2 (s.cpu.sp)) ({ entered op s.cpu with mcp := 151, a1 := setLo s.cpu.a1 (lo addr), pc := s.cpu.pc + 2, d := s.readAt 2 (s.cpu.sp) }) rfl rfl
    (by simp [tagAction, retire, Cpu.setCell, entered, addr_add_two, addr_add_three]) ⟨advance_advance _, rfl, rfl⟩ rfl fun t4 h4 => ?_
  refine h4.thenWrite ({ entered op s.cpu with mcp := 152, a1 := setLo s.cpu.a1 (lo addr), pc := s.cpu.pc + 2, d := s.readAt 2 (s.cpu.sp), sp := setLo s.cpu.sp (s.cpu.s - 1) }) rfl
    (by simp [tagAction, retire, Cpu.setCell, entered, addr_add_two, addr_add_three, decSp, incSp, Cpu.setS, Cpu.s, byte_sub_sub, byte_add_add, byte_add_three]) ⟨advance_advance _, rfl, rfl⟩ rfl fun t5 h5 => ?_
  refine h5.thenWrite ({ entered op s.cpu with mcp := 153, a1 := setLo s.cpu.a1 (lo addr), pc := s.cpu.pc + 2, d := s.readAt 2 (s.cpu.sp), sp := setLo s.cpu.sp (s.cpu.s - 2) }) rfl
    (by simp [tagAction, retire, Cpu.setCell, entered, addr_add_two, addr_add_three, decSp, incSp, Cpu.setS, Cpu.s, byte_sub_sub, byte_add_add, byte_add_three]) ⟨advance_advance _, rfl, rfl⟩ rfl fun t6 h6 => ?_
  refine h6.lastRead (hi addr) ({ entered op s.cpu with mcp := 154, a1 := addr, pc := addr, d := s.readAt 2 (s.cpu.sp), sp := setLo s.cpu.sp (s.cpu.s - 2) }) rfl rfl
    (by simp [tagAction, retire, Cpu.setCell, entered, addr_add_two, addr_add_three, jmpAbs]) ⟨advance_advance _, rfl, rfl⟩ rfl

/-- `RTS` (rule R322). -/
theorem rts_ends {s : State} (hs : s.Ready) {op : Byte} 
    (hop : opcStart op = 155) :
    Ends s (runSequence [op] s)
      ({ entered op s.cpu with mcp := 160, d := s.readAt 5 (pair (s.readAt 4 (setLo s.cpu.sp (s.cpu.s + 2))) (s.readAt 3 (setLo s.cpu.sp (s.cpu.s + 1)))), sp := setLo s.cpu.sp (s.cpu.s + 2), pc := pair (s.readAt 4 (setLo s.cpu.sp (s.cpu.s + 2))) (s.readAt 3 (setLo s.cpu.sp (s.cpu.s + 1))) + 1 })
      s
      [(s.cpu.pc, .read, op), (s.cpu.pc + 1, .read, s.readAt 1 (s.cpu.pc + 1)), (s.cpu.sp, .read, s.readAt 2 (s.cpu.sp)), (setLo s.cpu.sp (s.cpu.s + 1), .read, s.readAt 3 (setLo s.cpu.sp (s.cpu.s + 1))), (setLo s.cpu.sp (s.cpu.s + 2), .read, s.readAt 4 (setLo s.cpu.sp (s.cpu.s + 2))), (pair (s.readAt 4 (setLo s.cpu.sp (s.cpu.s + 2))) (s.readAt 3 (setLo s.cpu.sp (s.cpu.s + 1))), .read, s.readAt 5 (pair (s.readAt 4 (setLo s.cpu.sp (s.cpu.s + 2))) (s.readAt 3 (setLo s.cpu.sp (s.cpu.s + 1)))))] := by
  refine Ends.fetch hs 155 hop rfl fun t2 h2 => ?_
  refine h2.thenRead (s.readAt 1 (s.cpu.pc + 1)) ({ entered op s.cpu with mcp := 156, d := s.readAt 1 (s.cpu.pc + 1) }) rfl rfl
    (by simp [tagAction, retire, Cpu.setCell, entered, addr_add_two, addr_add_three]) ⟨advance_advance _, rfl, rfl⟩ rfl fun t3 h3 => ?_
  refine h3.thenRead (s.readAt 2 (s.cpu.sp)) ({ entered op s.cpu with mcp := 157, d := s.readAt 2 (s.cpu.sp), sp := setLo s.cpu.sp (s.cpu.s + 1) }) rfl rfl
    (by simp [tagAction, retire, Cpu.setCell, entered, addr_add_two, addr_add_three, decSp, incSp, Cpu.setS, Cpu.s, byte_sub_sub, byte_add_add, byte_add_three]) ⟨advance_advance _, rfl, rfl⟩ rfl fun t4 h4 => ?_
  refine h4.thenRead (s.readAt 3 (setLo s.cpu.sp (s.cpu.s + 1))) ({ entered op s.cpu with mcp := 158, d := s.readAt 2 (s.cpu.sp), sp := setLo s.cpu.sp (s.cpu.s + 2), pc := setLo (s.cpu.pc + 1) (s.readAt 3 (setLo s.cpu.sp (s.cpu.s + 1))) }) rfl rfl
    (by simp [tagAction, retire, Cpu.setCell, entered, addr_add_two, addr_add_three, decSp, incSp, Cpu.setS, Cpu.s, byte_sub_sub, byte_add_add, byte_add_three]) ⟨advance_advance _, rfl, rfl⟩ rfl fun t5 h5 => ?_
  refine h5.thenRead (s.readAt 4 (setLo s.cpu.sp (s.cpu.s + 2))) ({ entered op s.cpu with mcp := 159, d := s.readAt 2 (s.cpu.sp), sp := setLo s.cpu.sp (s.cpu.s + 2), pc := pair (s.readAt 4 (setLo s.cpu.sp (s.cpu.s + 2))) (s.readAt 3 (setLo s.cpu.sp (s.cpu.s + 1))) }) rfl rfl
    (by simp [tagAction, retire, Cpu.setCell, entered, addr_add_two, addr_add_three]) ⟨advance_advance _, rfl, rfl⟩ rfl fun t6 h6 => ?_
  refine h6.lastRead (s.readAt 5 (pair (s.readAt 4 (setLo s.cpu.sp (s.cpu.s + 2))) (s.readAt 3 (setLo s.cpu.sp (s.cpu.s + 1))))) ({ entered op s.cpu with mcp := 160, d := s.readAt 5 (pair (s.readAt 4 (setLo s.cpu.sp (s.cpu.s + 2))) (s.readAt 3 (setLo s.cpu.sp (s.cpu.s + 1)))), sp := setLo s.cpu.sp (s.cpu.s + 2), pc := pair (s.readAt 4 (setLo s.cpu.sp (s.cpu.s + 2))) (s.readAt 3 (setLo s.cpu.sp (s.cpu.s + 1))) + 1 }) rfl rfl
    (by simp [tagAction, retire, Cpu.setCell, entered, addr_add_two, addr_add_three]) ⟨advance_advance _, rfl, rfl⟩ rfl

/-- `RTI` (rule R323). -/
theorem rti_ends {s : State} (hs : s.Ready) {op : Byte} 
    (hop : opcStart op = 161) :
    Ends s (runSequence [op] s)
      ({ entered op s.cpu with mcp := 166, d := s.readAt 2 (s.cpu.sp), sp := setLo s.cpu.sp (s.cpu.s + 3), p := forceUB (s.readAt 3 (setLo s.cpu.sp (s.cpu.s + 1))), pc := pair (s.readAt 5 (setLo s.cpu.sp (s.cpu.s + 3))) (s.readAt 4 (setLo s.cpu.sp (s.cpu.s + 2))) })
      s
      [(s.cpu.pc, .read, op), (s.cpu.pc + 1, .read, s.readAt 1 (s.cpu.pc + 1)), (s.cpu.sp, .read, s.readAt 2 (s.cpu.sp)), (setLo s.cpu.sp (s.cpu.s + 1), .read, s.readAt 3 (setLo s.cpu.sp (s.cpu.s + 1))), (setLo s.cpu.sp (s.cpu.s + 2), .read, s.readAt 4 (setLo s.cpu.sp (s.cpu.s + 2))), (setLo s.cpu.sp (s.cpu.s + 3), .read, s.readAt 5 (setLo s.cpu.sp (s.cpu.s + 3)))] := by
  refine Ends.fetch hs 161 hop rfl fun t2 h2 => ?_
  refine h2.thenRead (s.readAt 1 (s.cpu.pc + 1)) ({ entered op s.cpu with mcp := 162, d := s.readAt 1 (s.cpu.pc + 1) }) rfl rfl
    (by simp [tagAction, retire, Cpu.setCell, entered, addr_add_two, addr_add_three]) ⟨advance_advance _, rfl, rfl⟩ rfl fun t3 h3 => ?_
  refine h3.thenRead (s.readAt 2 (s.cpu.sp)) ({ entered op s.cpu with mcp := 163, d := s.readAt 2 (s.cpu.sp), sp := setLo s.cpu.sp (s.cpu.s + 1) }) rfl rfl
    (by simp [tagAction, retire, Cpu.setCell, entered, addr_add_two, addr_add_three, decSp, incSp, Cpu.setS, Cpu.s, byte_sub_sub, byte_add_add, byte_add_three]) ⟨advance_advance _, rfl, rfl⟩ rfl fun t4 h4 => ?_
  refine h4.thenRead (s.readAt 3 (setLo s.cpu.sp (s.cpu.s + 1))) ({ entered op s.cpu with mcp := 164, d := s.readAt 2 (s.cpu.sp), sp := setLo s.cpu.sp (s.cpu.s + 2), p := forceUB (s.readAt 3 (setLo s.cpu.sp (s.cpu.s + 1))) }) rfl rfl
    (by simp [tagAction, retire, Cpu.setCell, entered, addr_add_two, addr_add_three, decSp, incSp, Cpu.setS, Cpu.s, byte_sub_sub, byte_add_add, byte_add_three, rtiTag]) ⟨advance_advance _, rfl, rfl⟩ rfl fun t5 h5 => ?_
  refine h5.thenRead (s.readAt 4 (setLo s.cpu.sp (s.cpu.s + 2))) ({ entered op s.cpu with mcp := 165, d := s.readAt 2 (s.cpu.sp), sp := setLo s.cpu.sp (s.cpu.s + 3), p := forceUB (s.readAt 3 (setLo s.cpu.sp (s.cpu.s + 1))), pc := setLo (s.cpu.pc + 1) (s.readAt 4 (setLo s.cpu.sp (s.cpu.s + 2))) }) rfl rfl
    (by simp [tagAction, retire, Cpu.setCell, entered, addr_add_two, addr_add_three, decSp, incSp, Cpu.setS, Cpu.s, byte_sub_sub, byte_add_add, byte_add_three]) ⟨advance_advance _, rfl, rfl⟩ rfl fun t6 h6 => ?_
  refine h6.lastRead (s.readAt 5 (setLo s.cpu.sp (s.cpu.s + 3))) ({ entered op s.cpu with mcp := 166, d := s.readAt 2 (s.cpu.sp), sp := setLo s.cpu.sp (s.cpu.s + 3), p := forceUB (s.readAt 3 (setLo s.cpu.sp (s.cpu.s + 1))), pc := pair (s.readAt 5 (setLo s.cpu.sp (s.cpu.s + 3))) (s.readAt 4 (setLo s.cpu.sp (s.cpu.s + 2))) }) rfl rfl
    (by simp [tagAction, retire, Cpu.setCell, entered, addr_add_two, addr_add_three]) ⟨advance_advance _, rfl, rfl⟩ rfl

/-- `PHA` (rule R350). -/
theorem pha_ends {s : State} (hs : s.Ready) {op : Byte} 
    (hop : opcStart op = 167) :
    Ends s (runSequence [op] s)
      ({ entered op s.cpu with mcp := 169, d := s.cpu.a, sp := setLo s.cpu.sp (s.cpu.s - 1) })
      (busWrite s s.cpu.sp s.cpu.a)
      [(s.cpu.pc, .read, op), (s.cpu.pc + 1, .read, s.readAt 1 (s.cpu.pc + 1)), (s.cpu.sp, .write, s.cpu.a)] := by
  refine Ends.fetch hs 167 hop rfl fun t2 h2 => ?_
  refine h2.thenRead (s.readAt 1 (s.cpu.pc + 1)) ({ entered op s.cpu with mcp := 168, d := s.cpu.a }) rfl rfl
    (by simp [tagAction, retire, Cpu.setCell, entered, addr_add_two, addr_add_three]) ⟨advance_advance _, rfl, rfl⟩ rfl fun t3 h3 => ?_
  refine h3.lastWrite ({ entered op s.cpu with mcp := 169, d := s.cpu.a, sp := setLo s.cpu.sp (s.cpu.s - 1) }) rfl
    (by simp [tagAction, retire, Cpu.setCell, entered, addr_add_two, addr_add_three, decSp, incSp, Cpu.setS, Cpu.s, byte_sub_sub, byte_add_add, byte_add_three]) ⟨advance_advance _, rfl, rfl⟩ rfl

/-- `PHP` (rule R351). -/
theorem php_ends {s : State} (hs : s.Ready) {op : Byte} 
    (hop : opcStart op = 170) :
    Ends s (runSequence [op] s)
      ({ entered op s.cpu with mcp := 172, d := forceUB (entryP s.cpu), sp := setLo s.cpu.sp (s.cpu.s - 1) })
      (busWrite s s.cpu.sp (forceUB (entryP s.cpu)))
      [(s.cpu.pc, .read, op), (s.cpu.pc + 1, .read, s.readAt 1 (s.cpu.pc + 1)), (s.cpu.sp, .write, (forceUB (entryP s.cpu)))] := by
  refine Ends.fetch hs 170 hop rfl fun t2 h2 => ?_
  refine h2.thenRead (s.readAt 1 (s.cpu.pc + 1)) ({ entered op s.cpu with mcp := 171, d := forceUB (entryP s.cpu) }) rfl rfl
    (by simp [tagAction, retire, Cpu.setCell, entered, addr_add_two, addr_add_three]) ⟨advance_advance _, rfl, rfl⟩ rfl fun t3 h3 => ?_
  refine h3.lastWrite ({ entered op s.cpu with mcp := 172, d := forceUB (entryP s.cpu), sp := setLo s.cpu.sp (s.cpu.s - 1) }) rfl
    (by simp [tagAction, retire, Cpu.setCell, entered, addr_add_two, addr_add_three, decSp, incSp, Cpu.setS, Cpu.s, byte_sub_sub, byte_add_add, byte_add_three]) ⟨advance_advance _, rfl, rfl⟩ rfl

/-- `PLA` (rule R352). -/
theorem pla_ends {s : State} (hs : s.Ready) {op : Byte} 
    (hop : opcStart op = 173) :
    Ends s (runSequence [op] s)
      (doOp { entered op s.cpu with mcp := 176, d := s.readAt 3 (setLo s.cpu.sp (s.cpu.s + 1)), sp := setLo s.cpu.sp (s.cpu.s + 1) })
      s
      [(s.cpu.pc, .read, op), (s.cpu.pc + 1, .read, s.readAt 1 (s.cpu.pc + 1)), (s.cpu.sp, .read, s.readAt 2 (s.cpu.sp)), (setLo s.cpu.sp (s.cpu.s + 1), .read, s.readAt 3 (setLo s.cpu.sp (s.cpu.s + 1)))] := by
  refine Ends.fetch hs 173 hop rfl fun t2 h2 => ?_
  refine h2.thenRead (s.readAt 1 (s.cpu.pc + 1)) ({ entered op s.cpu with mcp := 174, d := s.readAt 1 (s.cpu.pc + 1) }) rfl rfl
    (by simp [tagAction, retire, Cpu.setCell, entered, addr_add_two, addr_add_three]) ⟨advance_advance _, rfl, rfl⟩ rfl fun t3 h3 => ?_
  refine h3.thenRead (s.readAt 2 (s.cpu.sp)) ({ entered op s.cpu with mcp := 175, d := s.readAt 2 (s.cpu.sp), sp := setLo s.cpu.sp (s.cpu.s + 1) }) rfl rfl
    (by simp [tagAction, retire, Cpu.setCell, entered, addr_add_two, addr_add_three, decSp, incSp, Cpu.setS, Cpu.s, byte_sub_sub, byte_add_add, byte_add_three]) ⟨advance_advance _, rfl, rfl⟩ rfl fun t4 h4 => ?_
  refine h4.lastRead (s.readAt 3 (setLo s.cpu.sp (s.cpu.s + 1))) (doOp { entered op s.cpu with mcp := 176, d := s.readAt 3 (setLo s.cpu.sp (s.cpu.s + 1)), sp := setLo s.cpu.sp (s.cpu.s + 1) }) rfl rfl
    (by simp [tagAction, retire, Cpu.setCell, entered, addr_add_two, addr_add_three]) (Cpu.Settled.doOp ⟨advance_advance _, rfl, rfl⟩) (by rw [doOp_mcp]; rfl)

/-- `PLP` (rule R353). -/
theorem plp_ends {s : State} (hs : s.Ready) {op : Byte} 
    (hop : opcStart op = 177) :
    Ends s (runSequence [op] s)
      ({ entered op s.cpu with mcp := 180, d := s.readAt 3 (setLo s.cpu.sp (s.cpu.s + 1)), sp := setLo s.cpu.sp (s.cpu.s + 1) })
      s
      [(s.cpu.pc, .read, op), (s.cpu.pc + 1, .read, s.readAt 1 (s.cpu.pc + 1)), (s.cpu.sp, .read, s.readAt 2 (s.cpu.sp)), (setLo s.cpu.sp (s.cpu.s + 1), .read, s.readAt 3 (setLo s.cpu.sp (s.cpu.s + 1)))] := by
  refine Ends.fetch hs 177 hop rfl fun t2 h2 => ?_
  refine h2.thenRead (s.readAt 1 (s.cpu.pc + 1)) ({ entered op s.cpu with mcp := 178, d := s.readAt 1 (s.cpu.pc + 1) }) rfl rfl
    (by simp [tagAction, retire, Cpu.setCell, entered, addr_add_two, addr_add_three]) ⟨advance_advance _, rfl, rfl⟩ rfl fun t3 h3 => ?_
  refine h3.thenRead (s.readAt 2 (s.cpu.sp)) ({ entered op s.cpu with mcp := 179, d := s.readAt 2 (s.cpu.sp), sp := setLo s.cpu.sp (s.cpu.s + 1) }) rfl rfl
    (by simp [tagAction, retire, Cpu.setCell, entered, addr_add_two, addr_add_three, decSp, incSp, Cpu.setS, Cpu.s, byte_sub_sub, byte_add_add, byte_add_three]) ⟨advance_advance _, rfl, rfl⟩ rfl fun t4 h4 => ?_
  refine h4.lastRead (s.readAt 3 (setLo s.cpu.sp (s.cpu.s + 1))) ({ entered op s.cpu with mcp := 180, d := s.readAt 3 (setLo s.cpu.sp (s.cpu.s + 1)), sp := setLo s.cpu.sp (s.cpu.s + 1) }) rfl rfl
    (by simp [tagAction, retire, Cpu.setCell, entered, addr_add_two, addr_add_three]) ⟨advance_advance _, rfl, rfl⟩ rfl

/-- `CLI` (rule R356). -/
theorem cli_ends {s : State} (hs : s.Ready) {op : Byte} 
    (hop : opcStart op = 181) :
    Ends s (runSequence [op] s)
      ({ entered op s.cpu with mcp := 182, d := s.readAt 1 (s.cpu.pc + 1) })
      s
      [(s.cpu.pc, .read, op), (s.cpu.pc + 1, .read, s.readAt 1 (s.cpu.pc + 1))] := by
  refine Ends.fetch hs 181 hop rfl fun t2 h2 => ?_
  refine h2.lastRead (s.readAt 1 (s.cpu.pc + 1)) ({ entered op s.cpu with mcp := 182, d := s.readAt 1 (s.cpu.pc + 1) }) rfl rfl
    (by simp [tagAction, retire, Cpu.setCell, entered, addr_add_two, addr_add_three]) ⟨advance_advance _, rfl, rfl⟩ rfl

/-- `SEI` (rule R357). -/
theorem sei_ends {s : State} (hs : s.Ready) {op : Byte} 
    (hop : opcStart op = 183) :
    Ends s (runSequence [op] s)
      ({ entered op s.cpu with mcp := 184, d := s.readAt 1 (s.cpu.pc + 1) })
      s
      [(s.cpu.pc, .read, op), (s.cpu.pc + 1, .read, s.readAt 1 (s.cpu.pc + 1))] := by
  refine Ends.fetch hs 183 hop rfl fun t2 h2 => ?_
  refine h2.lastRead (s.readAt 1 (s.cpu.pc + 1)) ({ entered op s.cpu with mcp := 184, d := s.readAt 1 (s.cpu.pc + 1) }) rfl rfl
    (by simp [tagAction, retire, Cpu.setCell, entered, addr_add_two, addr_add_three]) ⟨advance_advance _, rfl, rfl⟩ rfl

/-- `JAM` (rule R391). -/
theorem jam_ends {s : State} (hs : s.Ready) {op : Byte} 
    (hop : opcStart op = 205) :
    Ends s (runSequence [op] s)
      ({ entered op s.cpu with mcp := 206, d := s.readAt 1 (s.cpu.pc + 1) })
      s
      [(s.cpu.pc, .read, op), (s.cpu.pc + 1, .read, s.readAt 1 (s.cpu.pc + 1))] := by
  refine Ends.fetch hs 205 hop rfl fun t2 h2 => ?_
  refine h2.lastRead (s.readAt 1 (s.cpu.pc + 1)) ({ entered op s.cpu with mcp := 206, d := s.readAt 1 (s.cpu.pc + 1) }) rfl rfl
    (by simp [tagAction, retire, Cpu.setCell, entered, addr_add_two, addr_add_three]) ⟨advance_advance _, rfl, rfl⟩ rfl

/-- A branch that is not taken (rules R188, R221). -/
theorem branch_notTaken_ends {s : State} (hs : s.Ready) {op disp : Byte} {tag : Tag} {cond : Byte → Bool} (m : Cursor)
    (hop : opcStart op = m) (hn : (isBoundary m || isHalted m) = false)
    (hm : romAt m = ⟨.pc, .d, .read, true, tag⟩) (hno : tag ≠ .nmop) (ht : ∀ c, tagAction tag c = branchEntry (cond c.p) c)
    (hc : cond (entryP s.cpu) = false) :
    Ends s (runSequence [op, disp] s)
      { entered op s.cpu with d := disp, pc := s.cpu.pc + 2, mcp := 202 }
      s [(s.cpu.pc, .read, op), (s.cpu.pc + 1, .read, disp)] := by
  refine Ends.fetch hs m hop hn fun t2 h2 => ?_
  have hb : readByte [disp] ⟨.pc, .d, .read, true, tag⟩ s (quietInput (s.clock + 1)) (s.cpu.pc + 1) = disp := by
    cases tag <;> first | rfl | exact absurd rfl hno
  refine h2.lastRead disp { entered op s.cpu with d := disp, pc := s.cpu.pc + 2, mcp := 202 } hm hb ?_
    ⟨advance_advance _, rfl, rfl⟩ rfl
  have hp : cond (retire ⟨.pc, .d, .read, true, tag⟩
      ({ entered op s.cpu with mcp := m }.setCell .d disp)).p = false := hc
  rw [ht, hp]
  simp [branchEntry, retire, Cpu.setCell, entered, brDisp, addr_add_two]

/-- A branch taken within the page of the next instruction (rules R188, R191, R221). -/
theorem branch_samePage_ends {s : State} (hs : s.Ready) {op disp : Byte} {tag : Tag} {cond : Byte → Bool} (m : Cursor)
    (hop : opcStart op = m) (hn : (isBoundary m || isHalted m) = false)
    (hm : romAt m = ⟨.pc, .d, .read, true, tag⟩) (hno : tag ≠ .nmop) (ht : ∀ c, tagAction tag c = branchEntry (cond c.p) c)
    (hc : cond (entryP s.cpu) = true)
    (hp : hi (eaRelative (s.cpu.pc + 2) disp) = hi (s.cpu.pc + 2)) :
    Ends s (runSequence [op, disp] s)
      { entered op s.cpu with d := s.readAt 2 (s.cpu.pc + 2), a3 := eaRelative (s.cpu.pc + 2) disp,
                              pc := eaRelative (s.cpu.pc + 2) disp, mcp := 204 }
      s [(s.cpu.pc, .read, op), (s.cpu.pc + 1, .read, disp),
         (s.cpu.pc + 2, .read, s.readAt 2 (s.cpu.pc + 2))] := by
  refine Ends.fetch hs m hop hn fun t2 h2 => ?_
  have hb : readByte [disp] ⟨.pc, .d, .read, true, tag⟩ s (quietInput (s.clock + 1)) (s.cpu.pc + 1) = disp := by
    cases tag <;> first | rfl | exact absurd rfl hno
  refine h2.thenRead disp
    { entered op s.cpu with d := disp, pc := s.cpu.pc + 2, a3 := eaRelative (s.cpu.pc + 2) disp, mcp := 203 } hm hb ?_ ⟨advance_advance _, rfl, rfl⟩ rfl fun t3 h3 => ?_
  · have hq : cond (retire ⟨.pc, .d, .read, true, tag⟩
        ({ entered op s.cpu with mcp := m }.setCell .d disp)).p = true := hc
    rw [ht, hq]
    unfold eaRelative at hp
    simp [branchEntry, retire, Cpu.setCell, entered, brNoCross, addr_add_two, eaRelative]
    intro h
    exact absurd hp h
  · exact h3.lastRead (s.readAt 2 (s.cpu.pc + 2)) _ rfl (by unfold readByte; split <;> first | rfl | simp_all [isStreamRead])
      (by simp [tagAction, brFix, retire, Cpu.setCell]) ⟨advance_advance _, rfl, rfl⟩ rfl

/-- A branch taken to another page (rules R188 to R190, R221). -/
theorem branch_otherPage_ends {s : State} (hs : s.Ready) {op disp : Byte} {tag : Tag} {cond : Byte → Bool} (m : Cursor)
    (hop : opcStart op = m) (hn : (isBoundary m || isHalted m) = false)
    (hm : romAt m = ⟨.pc, .d, .read, true, tag⟩) (hno : tag ≠ .nmop) (ht : ∀ c, tagAction tag c = branchEntry (cond c.p) c)
    (hc : cond (entryP s.cpu) = true)
    (hp : hi (eaRelative (s.cpu.pc + 2) disp) ≠ hi (s.cpu.pc + 2)) :
    Ends s (runSequence [op, disp] s)
      { entered op s.cpu with d := s.readAt 3 (setLo (s.cpu.pc + 2) (lo (eaRelative (s.cpu.pc + 2) disp))),
                              a3 := eaRelative (s.cpu.pc + 2) disp,
                              pc := eaRelative (s.cpu.pc + 2) disp, mcp := 202 }
      s [(s.cpu.pc, .read, op), (s.cpu.pc + 1, .read, disp),
         (s.cpu.pc + 2, .read, s.readAt 2 (s.cpu.pc + 2)),
         (setLo (s.cpu.pc + 2) (lo (eaRelative (s.cpu.pc + 2) disp)), .read,
          s.readAt 3 (setLo (s.cpu.pc + 2) (lo (eaRelative (s.cpu.pc + 2) disp))))] := by
  refine Ends.fetch hs m hop hn fun t2 h2 => ?_
  have hb : readByte [disp] ⟨.pc, .d, .read, true, tag⟩ s (quietInput (s.clock + 1)) (s.cpu.pc + 1) = disp := by
    cases tag <;> first | rfl | exact absurd rfl hno
  refine h2.thenRead disp
    { entered op s.cpu with d := disp, pc := s.cpu.pc + 2, a3 := eaRelative (s.cpu.pc + 2) disp, mcp := 200 } hm hb ?_ ⟨advance_advance _, rfl, rfl⟩ rfl fun t3 h3 => ?_
  · have hq : cond (retire ⟨.pc, .d, .read, true, tag⟩
        ({ entered op s.cpu with mcp := m }.setCell .d disp)).p = true := hc
    rw [ht, hq]
    unfold eaRelative at hp
    simp [branchEntry, retire, Cpu.setCell, entered, brCross, addr_add_two, eaRelative]
    intro h
    exact absurd h hp
  · refine h3.thenRead (s.readAt 2 (s.cpu.pc + 2))
      { entered op s.cpu with d := s.readAt 2 (s.cpu.pc + 2),
                              pc := setLo (s.cpu.pc + 2) (lo (eaRelative (s.cpu.pc + 2) disp)),
                              a3 := eaRelative (s.cpu.pc + 2) disp, mcp := 201 }
      rfl (by unfold readByte; split <;> first | rfl | simp_all [isStreamRead])
      (by simp [tagAction, brPcl, retire, Cpu.setCell]) ⟨advance_advance _, rfl, rfl⟩ rfl fun t4 h4 => ?_
    exact h4.lastRead (s.readAt 3 (setLo (s.cpu.pc + 2) (lo (eaRelative (s.cpu.pc + 2) disp)))) _ rfl
      (by unfold readByte; split <;> first | rfl | simp_all [isStreamRead])
      (by simp [tagAction, brFix, retire, Cpu.setCell]) ⟨advance_advance _, rfl, rfl⟩ rfl


end Sys2Proof.Machine
end

