-- ==== Sys2Proof/Laws/Exceptions.lean ====
section
/-! SUPPORT. What the break sequence and the reset sequence do, said once (spec/60_exceptions.md rules R430 to R432,
spec/70_reset_and_hazards.md rule R472). -/

namespace Sys2Proof.Machine

/-- `brk_vec` in one record update (rule R199). -/
theorem brkVec_eq (c : Cpu) : brkVec c =
    { c with sp := setLo c.sp (c.s - 1), a4 := (if takesNmi c then vectorNmi else vectorIrq), p := setFlag c.p .i true,
             nmiT := (if takesNmi c then Delay.idle else c.nmiT) } := by
  unfold brkVec
  have h : takesNmi (decSp c) = takesNmi c := rfl
  simp only [h]
  cases takesNmi c <;> rfl

/-- `brk` in one record update (rule R197). -/
theorem brkTag_eq (c : Cpu) : brkTag c = { c with pc := if c.brkSrcs = srcSw then c.pc + 1 else c.pc } := by
  unfold brkTag
  split <;> rfl

/-- A read that is no fetch of the instruction stream is what `Access` returns. -/
theorem readByte_of_not_stream {m : MicroOp} (h : isStreamRead m = false) (feed : List Byte) (s : State) (c : CycleInput)
    (a : Addr) : readByte feed m s c a = busRead s c a := by
  unfold readByte
  rw [h]

/-- The break sequence after the opcode fetch that entered it, from the engine `c` (rules R197 to R199, R430): the
return address `pc`, the status byte `pushed`, the vector `vec`, and what is left of an NMI request. -/
theorem break_run {s t : State} {c : Cpu} {x : Transfer} (h : Ends s t { c with mcp := 185 } s [x]) {feed : List Byte}
    (hs : c.Settled) {pc : Addr} {pushed : Byte} {vec : Addr} {nmi : Delay}
    (hpc : (if c.brkSrcs = srcSw then c.pc + 1 else c.pc) = pc)
    (hpush : (if c.brkSrcs = srcSw then forceUB c.p else (c.p ||| 0x20) &&& 0xEF) = pushed)
    (hvec : (if takesNmi c then vectorNmi else vectorIrq) = vec)
    (hnmi : (if takesNmi c then Delay.idle else c.nmiT) = nmi) {m : State} {target : Addr}
    (hmem : busWrite (busWrite (busWrite s c.sp (hi pc)) (setLo c.sp (c.s - 1)) (lo pc)) (setLo c.sp (c.s - 2)) pushed
      = m)
    (htarget : pair (m.readAt 6 (vec + 1)) (m.readAt 5 vec) = target) :
    Ends s (runCycles 8 feed t)
      { c with d := pushed, pc := target, sp := setLo c.sp (c.s - 3), a1 := target, a4 := vec + 1, p := setFlag c.p .i true,
               nmiT := nmi, mcp := 191 }
      m
      [x, (c.pc, .read, s.readAt 1 c.pc), (c.sp, .write, hi pc), (setLo c.sp (c.s - 1), .write, lo pc),
       (setLo c.sp (c.s - 2), .write, pushed), (vec, .read, m.readAt 5 vec),
       (vec + 1, .read, m.readAt 6 (vec + 1))] := by
  have hmc : m.clock = s.clock := by subst hmem; simp
  have hset : ∀ {e : Cpu}, e.nmiT = c.nmiT → e.irqT = c.irqT → e.nmiLine = c.nmiLine → e.Settled := fun h1 h2 h3 =>
    ⟨by rw [h1]; exact hs.nmi, h2.trans hs.irq, h3.trans hs.line⟩
  refine h.thenRead (s.readAt 1 c.pc) { c with d := s.readAt 1 c.pc, pc := pc, mcp := 186 } rfl
    (readByte_of_not_stream rfl _ _ _ _) ?_ (hset rfl rfl rfl) rfl fun t3 h3 => ?_
  · subst hpc
    exact brkTag_eq _
  refine h3.thenWrite { c with d := s.readAt 1 c.pc, pc := pc, sp := setLo c.sp (c.s - 1), mcp := 187 } rfl
    (by simp [tagAction, retire, decSp, Cpu.setS, Cpu.s]) (hset rfl rfl rfl) rfl fun t4 h4 => ?_
  refine h4.thenWrite { c with d := pushed, pc := pc, sp := setLo c.sp (c.s - 2), mcp := 188 } rfl
    ?_ (hset rfl rfl rfl) rfl fun t5 h5 => ?_
  · subst hpush
    simp [tagAction, retire, brkP, pushedStatus, decSp, Cpu.setS, Cpu.s, byte_sub_sub]
  have hnset : nmi.advance = nmi := by
    subst hnmi
    split
    · rfl
    · exact hs.nmi
  have hset2 : ∀ {e : Cpu}, e.nmiT = nmi → e.irqT = c.irqT → e.nmiLine = c.nmiLine → e.Settled := fun h1 h2 h3 =>
    ⟨by rw [h1]; exact hnset, h2.trans hs.irq, h3.trans hs.line⟩
  refine h5.thenWrite { c with d := pushed, pc := pc, sp := setLo c.sp (c.s - 3), a4 := vec, p := setFlag c.p .i true, nmiT := nmi, mcp := 189 } rfl
    ?_ (hset2 rfl rfl rfl) rfl fun t6 h6 => ?_
  · subst hvec hnmi
    show brkVec _ = _
    rw [brkVec_eq]
    simp [retire, Cpu.s, takesNmi, byte_sub_three]
  have h6m : Ends s t6 { c with d := pushed, pc := pc, sp := setLo c.sp (c.s - 3), a4 := vec, p := setFlag c.p .i true, nmiT := nmi, mcp := 189 }
      m [x, (c.pc, .read, s.readAt 1 c.pc), (c.sp, .write, hi pc), (setLo c.sp (c.s - 1), .write, lo pc),
         (setLo c.sp (c.s - 2), .write, pushed)] := by
    rw [← hmem]
    exact h6
  have hr : ∀ k a, busRead m (quietInput (s.clock + k)) a = m.readAt k a := fun k a => by rw [State.readAt, hmc]
  refine h6m.thenRead (m.readAt 5 vec) { c with d := pushed, pc := pc, sp := setLo c.sp (c.s - 3), a4 := vec + 1, p := setFlag c.p .i true, nmiT := nmi, a1 := setLo c.a1 (m.readAt 5 vec), mcp := 190 } rfl
    ((readByte_of_not_stream rfl _ _ _ _).trans (hr 5 vec)) rfl (hset2 rfl rfl rfl) rfl fun t7 h7 => ?_
  refine h7.lastRead (m.readAt 6 (vec + 1)) { c with d := pushed, pc := target, sp := setLo c.sp (c.s - 3), a1 := target, a4 := vec + 1, p := setFlag c.p .i true, nmiT := nmi, mcp := 191 } rfl
    ((readByte_of_not_stream rfl _ _ _ _).trans (hr 6 (vec + 1))) ?_ (hset2 rfl rfl rfl) rfl
  subst htarget
  simp [tagAction, retire, jmpAbs, Cpu.setCell]

end Sys2Proof.Machine
end

