-- ==== Sys2Proof/Laws/Memory.lean ====
section
/-! SUPPORT. The byte stores (spec/10_state.md rule R50, spec/20_memory.md rules R80, R100): a read after a write, and that
every memory operation keeps the canonical form. -/

namespace Sys2Proof.Machine

@[simp] theorem readCells_nil (a : Nat) : readCells a [] = Memory.background := rfl

/-- A canonical list that starts at `n` holds nothing below `n`. -/
theorem readCells_below {n a : Nat} {l : List Host.Cell} (h : canonicalFrom n l = true) (ha : a < n) :
    readCells a l = Memory.background := by
  induction l generalizing n with
  | nil => rfl
  | cons q rest ih =>
    obtain ⟨b, v⟩ := q
    simp only [canonicalFrom, Bool.and_eq_true, decide_eq_true_eq] at h
    simp only [readCells]
    rw [if_neg (by omega)]
    exact ih h.2 (by omega)

/-- The canonical form from `n` is the canonical form from any smaller address. -/
theorem canonicalFrom_mono {n m : Nat} {l : List Host.Cell} (h : canonicalFrom n l = true) (hm : m ≤ n) :
    canonicalFrom m l = true := by
  cases l with
  | nil => rfl
  | cons q rest =>
    simp only [canonicalFrom, Bool.and_eq_true, decide_eq_true_eq] at h ⊢
    exact ⟨⟨⟨by omega, h.1.1.2⟩, h.1.2⟩, h.2⟩

/-- A write keeps the canonical form. -/
theorem canonicalFrom_writeCells {n a : Nat} {v : Byte} {l : List Host.Cell} (h : canonicalFrom n l = true)
    (hn : n ≤ a) (ha : a < 65536) : canonicalFrom n (writeCells a v l) = true := by
  induction l generalizing n with
  | nil =>
    simp only [writeCells]
    split
    · rfl
    · simp [canonicalFrom, *]
  | cons q rest ih =>
    obtain ⟨b, w⟩ := q
    have h0 := h
    simp only [canonicalFrom, Bool.and_eq_true, decide_eq_true_eq] at h
    obtain ⟨⟨⟨h1, h2⟩, h3⟩, h4⟩ := h
    simp only [writeCells]
    split
    · split
      · exact h0
      · simp only [canonicalFrom, Bool.and_eq_true, decide_eq_true_eq]
        exact ⟨⟨⟨hn, ha⟩, by assumption⟩, ⟨⟨by omega, h2⟩, h3⟩, h4⟩
    · split
      · rename_i hab
        subst hab
        split
        · exact canonicalFrom_mono h4 (by omega)
        · simp only [canonicalFrom, Bool.and_eq_true, decide_eq_true_eq]
          exact ⟨⟨⟨hn, ha⟩, by assumption⟩, h4⟩
      · simp only [canonicalFrom, Bool.and_eq_true, decide_eq_true_eq]
        exact ⟨⟨⟨h1, h2⟩, h3⟩, ih h4 (by omega)⟩

/-- Reading after writing, in a list in canonical form. -/
theorem readCells_writeCells {n a b : Nat} {v : Byte} {l : List Host.Cell} (h : canonicalFrom n l = true) :
    readCells b (writeCells a v l) = if b = a then v else readCells b l := by
  induction l generalizing n with
  | nil =>
    simp only [writeCells]
    split
    · rename_i hv; simp [hv]
    · simp only [readCells]
  | cons q rest ih =>
    obtain ⟨c, w⟩ := q
    simp only [canonicalFrom, Bool.and_eq_true, decide_eq_true_eq] at h
    obtain ⟨⟨⟨h1, h2⟩, h3⟩, h4⟩ := h
    simp only [writeCells]
    split
    · rename_i hac
      split
      · rename_i hv
        split
        · rename_i hb
          subst hb
          simp only [readCells]
          rw [if_neg (by omega), readCells_below h4 (by omega), hv]
        · rfl
      · simp only [readCells]
    · split
      · rename_i hac
        subst hac
        split
        · rename_i hv
          by_cases hb : b = a
          · subst hb; rw [readCells_below h4 (by omega)]; simp [hv]
          · simp [readCells, hb]
        · simp only [readCells]
          by_cases hb : b = a <;> simp [hb]
      · rename_i hne
        simp only [readCells, ih h4]
        by_cases hb : b = c
        · have : ¬ c = a := by omega
          simp [hb, this]
        · simp [hb]

/-- Reading after writing outside the canonical form too: the byte at any other address is as before. -/
theorem readCells_writeCells_ne {a b : Nat} {v : Byte} {l : List Host.Cell} (hb : b ≠ a) :
    readCells b (writeCells a v l) = readCells b l := by
  induction l with
  | nil =>
    simp only [writeCells]
    split <;> simp [readCells, hb]
  | cons q rest ih =>
    obtain ⟨c, w⟩ := q
    simp only [writeCells]
    split
    · split <;> simp [readCells, hb]
    · split
      · rename_i hac
        subst hac
        split <;> simp [readCells, hb]
      · simp [readCells, ih]

/-- A write leaves every other address alone (rule R100). -/
theorem Memory.read_write_ne {m : Memory} {a b : Addr} (v : Byte) (h : b ≠ a) : (m.write a v).read b = m.read b :=
  readCells_writeCells_ne fun e => h (BitVec.eq_of_toNat_eq e)

/-- A read after a write to the same address gives the byte written (rule R100). -/
theorem Memory.read_write_self {m : Memory} (hm : m.wf = true) (a : Addr) (v : Byte) : (m.write a v).read a = v := by
  show readCells a.toNat (writeCells a.toNat v m.cells) = v
  rw [readCells_writeCells (n := 0) hm, if_pos rfl]

/-- A write keeps the canonical form. -/
theorem Memory.write_wf {m : Memory} (hm : m.wf = true) (a : Addr) (v : Byte) : (m.write a v).wf = true :=
  canonicalFrom_writeCells hm (Nat.zero_le _) a.isLt

/-- The store with nothing listed has the canonical form. -/
theorem Memory.wf_empty : (Memory.mk []).wf = true := rfl

/-- A store built from pairs has the canonical form. -/
theorem Memory.ofPairs_wf (ps : List (Addr × Byte)) : (Memory.ofPairs ps).wf = true := by
  have : ∀ (qs : List (Addr × Byte)) (m : Memory), m.wf = true →
      (qs.foldl (fun m q => m.write q.1 q.2) m).wf = true := by
    intro qs
    induction qs with
    | nil => exact fun _ h => h
    | cons q qs ih => exact fun m h => ih _ (Memory.write_wf h q.1 q.2)
  exact this ps _ Memory.wf_empty

/-- The reset state's stores have the canonical form. -/
theorem State.reset_ram_wf : State.reset.ram.wf = true ∧ State.reset.drive.ram.wf = true := ⟨rfl, rfl⟩

/-- What a bus write can do (rules R71, R91 to R105): the port's registers with the configuration, one byte of RAM, or
nothing of the block. -/
theorem busWrite_cases (s : State) (a : Addr) (v : Byte) :
    (a = 0x0000 ∧ busWrite s a v = recompute { s with ddr := v }) ∨
    (a = 0x0001 ∧ busWrite s a v = recompute { s with pdata := v }) ∨
    (isPort a = false ∧ regionOf s.cfg .write a = .ram ∧ busWrite s a v = { s with ram := s.ram.write a v }) ∨
    (isPort a = false ∧ regionOf s.cfg .write a ≠ .ram ∧ busWrite s a v = s) := by
  unfold busWrite
  by_cases hp : isPort a = true
  · rw [if_pos hp]
    unfold portWrite
    by_cases h0 : a = 0x0000
    · rw [if_pos h0]; exact .inl ⟨h0, rfl⟩
    · rw [if_neg h0]
      refine .inr (.inl ⟨?_, rfl⟩)
      have := hp
      simp only [isPort, Bool.or_eq_true, decide_eq_true_eq] at this
      exact this.resolve_left h0
  · have hp' : isPort a = false := by simpa using hp
    rw [if_neg hp]
    refine .inr (.inr ?_)
    cases hr : regionOf s.cfg .write a
    · exact .inl ⟨hp', rfl, rfl⟩
    all_goals exact .inr ⟨hp', by decide, rfl⟩

/-- A bus write changes no byte of RAM but the one at its address. -/
theorem busWrite_ram_read_ne (s : State) {a b : Addr} (v : Byte) (h : b ≠ a) :
    (busWrite s a v).ram.read b = s.ram.read b := by
  rcases busWrite_cases s a v with ⟨-, e⟩ | ⟨-, e⟩ | ⟨-, -, e⟩ | ⟨-, -, e⟩ <;> rw [e]
  · rfl
  · rfl
  · exact Memory.read_write_ne v h

/-- A bus write keeps the canonical form of RAM. -/
theorem busWrite_ram_wf {s : State} (hs : s.ram.wf = true) (a : Addr) (v : Byte) : (busWrite s a v).ram.wf = true := by
  rcases busWrite_cases s a v with ⟨-, e⟩ | ⟨-, e⟩ | ⟨-, -, e⟩ | ⟨-, -, e⟩ <;> rw [e]
  · exact hs
  · exact hs
  · exact Memory.write_wf hs a v
  · exact hs

/-- A write of the secondary system keeps the canonical form of its RAM (rule R457). -/
theorem driveWrite_ram_wf {d : Drive} (hd : d.ram.wf = true) (a : Addr) (v : Byte) :
    (driveWrite d a v).ram.wf = true := by
  unfold driveWrite
  cases driveKind a
  · exact hd
  · exact Memory.write_wf hd _ v
  · exact hd
  · exact hd

end Sys2Proof.Machine
end

