-- ==== Sys2Proof/Laws/PerInstr.lean ====
section
/-! SUPPORT. The family of statements made per instruction: the shape of the encoding (spec/30_encoding.md rules R130,
R131), one lemma per constructor of `Instr`. -/

namespace Sys2Proof.Laws.EncodedForm

/-- The encoding is one opcode byte and then as many operand bytes as the opcode's addressing mode takes (rules R130,
R131). Only the reset row, which no bytes encode (rule R143), has none. -/
def Statement (i : Instr) : Prop :=
  i = .reset ∨ ∃ op operands, encode i = op :: operands ∧ operands.length = operandCount op

theorem brk : Statement .brk := .inr ⟨0x00, [], rfl, rfl⟩
theorem oraIzx (zp : Byte) : Statement (.oraIzx zp) := .inr ⟨0x01, [zp], rfl, rfl⟩
theorem jam02 : Statement .jam02 := .inr ⟨0x02, [], rfl, rfl⟩
theorem sloIzx (zp : Byte) : Statement (.sloIzx zp) := .inr ⟨0x03, [zp], rfl, rfl⟩
theorem nopZp04 (zp : Byte) : Statement (.nopZp04 zp) := .inr ⟨0x04, [zp], rfl, rfl⟩
theorem oraZp (zp : Byte) : Statement (.oraZp zp) := .inr ⟨0x05, [zp], rfl, rfl⟩
theorem aslZp (zp : Byte) : Statement (.aslZp zp) := .inr ⟨0x06, [zp], rfl, rfl⟩
theorem sloZp (zp : Byte) : Statement (.sloZp zp) := .inr ⟨0x07, [zp], rfl, rfl⟩
theorem php : Statement .php := .inr ⟨0x08, [], rfl, rfl⟩
theorem oraImm (v : Byte) : Statement (.oraImm v) := .inr ⟨0x09, [v], rfl, rfl⟩
theorem aslAcc : Statement .aslAcc := .inr ⟨0x0A, [], rfl, rfl⟩
theorem ancImm0B (v : Byte) : Statement (.ancImm0B v) := .inr ⟨0x0B, [v], rfl, rfl⟩
theorem nopAbs (addr : Addr) : Statement (.nopAbs addr) := .inr ⟨0x0C, [Machine.lo addr, Machine.hi addr], rfl, rfl⟩
theorem oraAbs (addr : Addr) : Statement (.oraAbs addr) := .inr ⟨0x0D, [Machine.lo addr, Machine.hi addr], rfl, rfl⟩
theorem aslAbs (addr : Addr) : Statement (.aslAbs addr) := .inr ⟨0x0E, [Machine.lo addr, Machine.hi addr], rfl, rfl⟩
theorem sloAbs (addr : Addr) : Statement (.sloAbs addr) := .inr ⟨0x0F, [Machine.lo addr, Machine.hi addr], rfl, rfl⟩
theorem bplRel (disp : Byte) : Statement (.bplRel disp) := .inr ⟨0x10, [disp], rfl, rfl⟩
theorem oraIzy (zp : Byte) : Statement (.oraIzy zp) := .inr ⟨0x11, [zp], rfl, rfl⟩
theorem jam12 : Statement .jam12 := .inr ⟨0x12, [], rfl, rfl⟩
theorem sloIzy (zp : Byte) : Statement (.sloIzy zp) := .inr ⟨0x13, [zp], rfl, rfl⟩
theorem nopZpx14 (zp : Byte) : Statement (.nopZpx14 zp) := .inr ⟨0x14, [zp], rfl, rfl⟩
theorem oraZpx (zp : Byte) : Statement (.oraZpx zp) := .inr ⟨0x15, [zp], rfl, rfl⟩
theorem aslZpx (zp : Byte) : Statement (.aslZpx zp) := .inr ⟨0x16, [zp], rfl, rfl⟩
theorem sloZpx (zp : Byte) : Statement (.sloZpx zp) := .inr ⟨0x17, [zp], rfl, rfl⟩
theorem clc : Statement .clc := .inr ⟨0x18, [], rfl, rfl⟩
theorem oraAby (addr : Addr) : Statement (.oraAby addr) := .inr ⟨0x19, [Machine.lo addr, Machine.hi addr], rfl, rfl⟩
theorem nopImp1A : Statement .nopImp1A := .inr ⟨0x1A, [], rfl, rfl⟩
theorem sloAby (addr : Addr) : Statement (.sloAby addr) := .inr ⟨0x1B, [Machine.lo addr, Machine.hi addr], rfl, rfl⟩
theorem nopAbx1C (addr : Addr) : Statement (.nopAbx1C addr) := .inr ⟨0x1C, [Machine.lo addr, Machine.hi addr], rfl, rfl⟩
theorem oraAbx (addr : Addr) : Statement (.oraAbx addr) := .inr ⟨0x1D, [Machine.lo addr, Machine.hi addr], rfl, rfl⟩
theorem aslAbx (addr : Addr) : Statement (.aslAbx addr) := .inr ⟨0x1E, [Machine.lo addr, Machine.hi addr], rfl, rfl⟩
theorem sloAbx (addr : Addr) : Statement (.sloAbx addr) := .inr ⟨0x1F, [Machine.lo addr, Machine.hi addr], rfl, rfl⟩
theorem jsrAbs (addr : Addr) : Statement (.jsrAbs addr) := .inr ⟨0x20, [Machine.lo addr, Machine.hi addr], rfl, rfl⟩
theorem andIzx (zp : Byte) : Statement (.andIzx zp) := .inr ⟨0x21, [zp], rfl, rfl⟩
theorem jam22 : Statement .jam22 := .inr ⟨0x22, [], rfl, rfl⟩
theorem rlaIzx (zp : Byte) : Statement (.rlaIzx zp) := .inr ⟨0x23, [zp], rfl, rfl⟩
theorem bitZp (zp : Byte) : Statement (.bitZp zp) := .inr ⟨0x24, [zp], rfl, rfl⟩
theorem andZp (zp : Byte) : Statement (.andZp zp) := .inr ⟨0x25, [zp], rfl, rfl⟩
theorem rolZp (zp : Byte) : Statement (.rolZp zp) := .inr ⟨0x26, [zp], rfl, rfl⟩
theorem rlaZp (zp : Byte) : Statement (.rlaZp zp) := .inr ⟨0x27, [zp], rfl, rfl⟩
theorem plp : Statement .plp := .inr ⟨0x28, [], rfl, rfl⟩
theorem andImm (v : Byte) : Statement (.andImm v) := .inr ⟨0x29, [v], rfl, rfl⟩
theorem rolAcc : Statement .rolAcc := .inr ⟨0x2A, [], rfl, rfl⟩
theorem ancImm2B (v : Byte) : Statement (.ancImm2B v) := .inr ⟨0x2B, [v], rfl, rfl⟩
theorem bitAbs (addr : Addr) : Statement (.bitAbs addr) := .inr ⟨0x2C, [Machine.lo addr, Machine.hi addr], rfl, rfl⟩
theorem andAbs (addr : Addr) : Statement (.andAbs addr) := .inr ⟨0x2D, [Machine.lo addr, Machine.hi addr], rfl, rfl⟩
theorem rolAbs (addr : Addr) : Statement (.rolAbs addr) := .inr ⟨0x2E, [Machine.lo addr, Machine.hi addr], rfl, rfl⟩
theorem rlaAbs (addr : Addr) : Statement (.rlaAbs addr) := .inr ⟨0x2F, [Machine.lo addr, Machine.hi addr], rfl, rfl⟩
theorem bmiRel (disp : Byte) : Statement (.bmiRel disp) := .inr ⟨0x30, [disp], rfl, rfl⟩
theorem andIzy (zp : Byte) : Statement (.andIzy zp) := .inr ⟨0x31, [zp], rfl, rfl⟩
theorem jam32 : Statement .jam32 := .inr ⟨0x32, [], rfl, rfl⟩
theorem rlaIzy (zp : Byte) : Statement (.rlaIzy zp) := .inr ⟨0x33, [zp], rfl, rfl⟩
theorem nopZpx34 (zp : Byte) : Statement (.nopZpx34 zp) := .inr ⟨0x34, [zp], rfl, rfl⟩
theorem andZpx (zp : Byte) : Statement (.andZpx zp) := .inr ⟨0x35, [zp], rfl, rfl⟩
theorem rolZpx (zp : Byte) : Statement (.rolZpx zp) := .inr ⟨0x36, [zp], rfl, rfl⟩
theorem rlaZpx (zp : Byte) : Statement (.rlaZpx zp) := .inr ⟨0x37, [zp], rfl, rfl⟩
theorem sec : Statement .sec := .inr ⟨0x38, [], rfl, rfl⟩
theorem andAby (addr : Addr) : Statement (.andAby addr) := .inr ⟨0x39, [Machine.lo addr, Machine.hi addr], rfl, rfl⟩
theorem nopImp3A : Statement .nopImp3A := .inr ⟨0x3A, [], rfl, rfl⟩
theorem rlaAby (addr : Addr) : Statement (.rlaAby addr) := .inr ⟨0x3B, [Machine.lo addr, Machine.hi addr], rfl, rfl⟩
theorem nopAbx3C (addr : Addr) : Statement (.nopAbx3C addr) := .inr ⟨0x3C, [Machine.lo addr, Machine.hi addr], rfl, rfl⟩
theorem andAbx (addr : Addr) : Statement (.andAbx addr) := .inr ⟨0x3D, [Machine.lo addr, Machine.hi addr], rfl, rfl⟩
theorem rolAbx (addr : Addr) : Statement (.rolAbx addr) := .inr ⟨0x3E, [Machine.lo addr, Machine.hi addr], rfl, rfl⟩
theorem rlaAbx (addr : Addr) : Statement (.rlaAbx addr) := .inr ⟨0x3F, [Machine.lo addr, Machine.hi addr], rfl, rfl⟩
theorem rti : Statement .rti := .inr ⟨0x40, [], rfl, rfl⟩
theorem eorIzx (zp : Byte) : Statement (.eorIzx zp) := .inr ⟨0x41, [zp], rfl, rfl⟩
theorem jam42 : Statement .jam42 := .inr ⟨0x42, [], rfl, rfl⟩
theorem sreIzx (zp : Byte) : Statement (.sreIzx zp) := .inr ⟨0x43, [zp], rfl, rfl⟩
theorem nopZp44 (zp : Byte) : Statement (.nopZp44 zp) := .inr ⟨0x44, [zp], rfl, rfl⟩
theorem eorZp (zp : Byte) : Statement (.eorZp zp) := .inr ⟨0x45, [zp], rfl, rfl⟩
theorem lsrZp (zp : Byte) : Statement (.lsrZp zp) := .inr ⟨0x46, [zp], rfl, rfl⟩
theorem sreZp (zp : Byte) : Statement (.sreZp zp) := .inr ⟨0x47, [zp], rfl, rfl⟩
theorem pha : Statement .pha := .inr ⟨0x48, [], rfl, rfl⟩
theorem eorImm (v : Byte) : Statement (.eorImm v) := .inr ⟨0x49, [v], rfl, rfl⟩
theorem lsrAcc : Statement .lsrAcc := .inr ⟨0x4A, [], rfl, rfl⟩
theorem alrImm (v : Byte) : Statement (.alrImm v) := .inr ⟨0x4B, [v], rfl, rfl⟩
theorem jmpAbs (addr : Addr) : Statement (.jmpAbs addr) := .inr ⟨0x4C, [Machine.lo addr, Machine.hi addr], rfl, rfl⟩
theorem eorAbs (addr : Addr) : Statement (.eorAbs addr) := .inr ⟨0x4D, [Machine.lo addr, Machine.hi addr], rfl, rfl⟩
theorem lsrAbs (addr : Addr) : Statement (.lsrAbs addr) := .inr ⟨0x4E, [Machine.lo addr, Machine.hi addr], rfl, rfl⟩
theorem sreAbs (addr : Addr) : Statement (.sreAbs addr) := .inr ⟨0x4F, [Machine.lo addr, Machine.hi addr], rfl, rfl⟩
theorem bvcRel (disp : Byte) : Statement (.bvcRel disp) := .inr ⟨0x50, [disp], rfl, rfl⟩
theorem eorIzy (zp : Byte) : Statement (.eorIzy zp) := .inr ⟨0x51, [zp], rfl, rfl⟩
theorem jam52 : Statement .jam52 := .inr ⟨0x52, [], rfl, rfl⟩
theorem sreIzy (zp : Byte) : Statement (.sreIzy zp) := .inr ⟨0x53, [zp], rfl, rfl⟩
theorem nopZpx54 (zp : Byte) : Statement (.nopZpx54 zp) := .inr ⟨0x54, [zp], rfl, rfl⟩
theorem eorZpx (zp : Byte) : Statement (.eorZpx zp) := .inr ⟨0x55, [zp], rfl, rfl⟩
theorem lsrZpx (zp : Byte) : Statement (.lsrZpx zp) := .inr ⟨0x56, [zp], rfl, rfl⟩
theorem sreZpx (zp : Byte) : Statement (.sreZpx zp) := .inr ⟨0x57, [zp], rfl, rfl⟩
theorem cli : Statement .cli := .inr ⟨0x58, [], rfl, rfl⟩
theorem eorAby (addr : Addr) : Statement (.eorAby addr) := .inr ⟨0x59, [Machine.lo addr, Machine.hi addr], rfl, rfl⟩
theorem nopImp5A : Statement .nopImp5A := .inr ⟨0x5A, [], rfl, rfl⟩
theorem sreAby (addr : Addr) : Statement (.sreAby addr) := .inr ⟨0x5B, [Machine.lo addr, Machine.hi addr], rfl, rfl⟩
theorem nopAbx5C (addr : Addr) : Statement (.nopAbx5C addr) := .inr ⟨0x5C, [Machine.lo addr, Machine.hi addr], rfl, rfl⟩
theorem eorAbx (addr : Addr) : Statement (.eorAbx addr) := .inr ⟨0x5D, [Machine.lo addr, Machine.hi addr], rfl, rfl⟩
theorem lsrAbx (addr : Addr) : Statement (.lsrAbx addr) := .inr ⟨0x5E, [Machine.lo addr, Machine.hi addr], rfl, rfl⟩
theorem sreAbx (addr : Addr) : Statement (.sreAbx addr) := .inr ⟨0x5F, [Machine.lo addr, Machine.hi addr], rfl, rfl⟩
theorem rts : Statement .rts := .inr ⟨0x60, [], rfl, rfl⟩
theorem adcIzx (zp : Byte) : Statement (.adcIzx zp) := .inr ⟨0x61, [zp], rfl, rfl⟩
theorem jam62 : Statement .jam62 := .inr ⟨0x62, [], rfl, rfl⟩
theorem rraIzx (zp : Byte) : Statement (.rraIzx zp) := .inr ⟨0x63, [zp], rfl, rfl⟩
theorem nopZp64 (zp : Byte) : Statement (.nopZp64 zp) := .inr ⟨0x64, [zp], rfl, rfl⟩
theorem adcZp (zp : Byte) : Statement (.adcZp zp) := .inr ⟨0x65, [zp], rfl, rfl⟩
theorem rorZp (zp : Byte) : Statement (.rorZp zp) := .inr ⟨0x66, [zp], rfl, rfl⟩
theorem rraZp (zp : Byte) : Statement (.rraZp zp) := .inr ⟨0x67, [zp], rfl, rfl⟩
theorem pla : Statement .pla := .inr ⟨0x68, [], rfl, rfl⟩
theorem adcImm (v : Byte) : Statement (.adcImm v) := .inr ⟨0x69, [v], rfl, rfl⟩
theorem rorAcc : Statement .rorAcc := .inr ⟨0x6A, [], rfl, rfl⟩
theorem arrImm (v : Byte) : Statement (.arrImm v) := .inr ⟨0x6B, [v], rfl, rfl⟩
theorem jmpInd (addr : Addr) : Statement (.jmpInd addr) := .inr ⟨0x6C, [Machine.lo addr, Machine.hi addr], rfl, rfl⟩
theorem adcAbs (addr : Addr) : Statement (.adcAbs addr) := .inr ⟨0x6D, [Machine.lo addr, Machine.hi addr], rfl, rfl⟩
theorem rorAbs (addr : Addr) : Statement (.rorAbs addr) := .inr ⟨0x6E, [Machine.lo addr, Machine.hi addr], rfl, rfl⟩
theorem rraAbs (addr : Addr) : Statement (.rraAbs addr) := .inr ⟨0x6F, [Machine.lo addr, Machine.hi addr], rfl, rfl⟩
theorem bvsRel (disp : Byte) : Statement (.bvsRel disp) := .inr ⟨0x70, [disp], rfl, rfl⟩
theorem adcIzy (zp : Byte) : Statement (.adcIzy zp) := .inr ⟨0x71, [zp], rfl, rfl⟩
theorem jam72 : Statement .jam72 := .inr ⟨0x72, [], rfl, rfl⟩
theorem rraIzy (zp : Byte) : Statement (.rraIzy zp) := .inr ⟨0x73, [zp], rfl, rfl⟩
theorem nopZpx74 (zp : Byte) : Statement (.nopZpx74 zp) := .inr ⟨0x74, [zp], rfl, rfl⟩
theorem adcZpx (zp : Byte) : Statement (.adcZpx zp) := .inr ⟨0x75, [zp], rfl, rfl⟩
theorem rorZpx (zp : Byte) : Statement (.rorZpx zp) := .inr ⟨0x76, [zp], rfl, rfl⟩
theorem rraZpx (zp : Byte) : Statement (.rraZpx zp) := .inr ⟨0x77, [zp], rfl, rfl⟩
theorem sei : Statement .sei := .inr ⟨0x78, [], rfl, rfl⟩
theorem adcAby (addr : Addr) : Statement (.adcAby addr) := .inr ⟨0x79, [Machine.lo addr, Machine.hi addr], rfl, rfl⟩
theorem nopImp7A : Statement .nopImp7A := .inr ⟨0x7A, [], rfl, rfl⟩
theorem rraAby (addr : Addr) : Statement (.rraAby addr) := .inr ⟨0x7B, [Machine.lo addr, Machine.hi addr], rfl, rfl⟩
theorem nopAbx7C (addr : Addr) : Statement (.nopAbx7C addr) := .inr ⟨0x7C, [Machine.lo addr, Machine.hi addr], rfl, rfl⟩
theorem adcAbx (addr : Addr) : Statement (.adcAbx addr) := .inr ⟨0x7D, [Machine.lo addr, Machine.hi addr], rfl, rfl⟩
theorem rorAbx (addr : Addr) : Statement (.rorAbx addr) := .inr ⟨0x7E, [Machine.lo addr, Machine.hi addr], rfl, rfl⟩
theorem rraAbx (addr : Addr) : Statement (.rraAbx addr) := .inr ⟨0x7F, [Machine.lo addr, Machine.hi addr], rfl, rfl⟩
theorem nopImm80 (v : Byte) : Statement (.nopImm80 v) := .inr ⟨0x80, [v], rfl, rfl⟩
theorem staIzx (zp : Byte) : Statement (.staIzx zp) := .inr ⟨0x81, [zp], rfl, rfl⟩
theorem nopImm82 (v : Byte) : Statement (.nopImm82 v) := .inr ⟨0x82, [v], rfl, rfl⟩
theorem saxIzx (zp : Byte) : Statement (.saxIzx zp) := .inr ⟨0x83, [zp], rfl, rfl⟩
theorem styZp (zp : Byte) : Statement (.styZp zp) := .inr ⟨0x84, [zp], rfl, rfl⟩
theorem staZp (zp : Byte) : Statement (.staZp zp) := .inr ⟨0x85, [zp], rfl, rfl⟩
theorem stxZp (zp : Byte) : Statement (.stxZp zp) := .inr ⟨0x86, [zp], rfl, rfl⟩
theorem saxZp (zp : Byte) : Statement (.saxZp zp) := .inr ⟨0x87, [zp], rfl, rfl⟩
theorem dey : Statement .dey := .inr ⟨0x88, [], rfl, rfl⟩
theorem nopImm89 (v : Byte) : Statement (.nopImm89 v) := .inr ⟨0x89, [v], rfl, rfl⟩
theorem txa : Statement .txa := .inr ⟨0x8A, [], rfl, rfl⟩
theorem aneImm (v : Byte) : Statement (.aneImm v) := .inr ⟨0x8B, [v], rfl, rfl⟩
theorem styAbs (addr : Addr) : Statement (.styAbs addr) := .inr ⟨0x8C, [Machine.lo addr, Machine.hi addr], rfl, rfl⟩
theorem staAbs (addr : Addr) : Statement (.staAbs addr) := .inr ⟨0x8D, [Machine.lo addr, Machine.hi addr], rfl, rfl⟩
theorem stxAbs (addr : Addr) : Statement (.stxAbs addr) := .inr ⟨0x8E, [Machine.lo addr, Machine.hi addr], rfl, rfl⟩
theorem saxAbs (addr : Addr) : Statement (.saxAbs addr) := .inr ⟨0x8F, [Machine.lo addr, Machine.hi addr], rfl, rfl⟩
theorem bccRel (disp : Byte) : Statement (.bccRel disp) := .inr ⟨0x90, [disp], rfl, rfl⟩
theorem staIzy (zp : Byte) : Statement (.staIzy zp) := .inr ⟨0x91, [zp], rfl, rfl⟩
theorem jam92 : Statement .jam92 := .inr ⟨0x92, [], rfl, rfl⟩
theorem shaIzy (zp : Byte) : Statement (.shaIzy zp) := .inr ⟨0x93, [zp], rfl, rfl⟩
theorem styZpx (zp : Byte) : Statement (.styZpx zp) := .inr ⟨0x94, [zp], rfl, rfl⟩
theorem staZpx (zp : Byte) : Statement (.staZpx zp) := .inr ⟨0x95, [zp], rfl, rfl⟩
theorem stxZpy (zp : Byte) : Statement (.stxZpy zp) := .inr ⟨0x96, [zp], rfl, rfl⟩
theorem saxZpy (zp : Byte) : Statement (.saxZpy zp) := .inr ⟨0x97, [zp], rfl, rfl⟩
theorem tya : Statement .tya := .inr ⟨0x98, [], rfl, rfl⟩
theorem staAby (addr : Addr) : Statement (.staAby addr) := .inr ⟨0x99, [Machine.lo addr, Machine.hi addr], rfl, rfl⟩
theorem txs : Statement .txs := .inr ⟨0x9A, [], rfl, rfl⟩
theorem tasAby (addr : Addr) : Statement (.tasAby addr) := .inr ⟨0x9B, [Machine.lo addr, Machine.hi addr], rfl, rfl⟩
theorem shyAbx (addr : Addr) : Statement (.shyAbx addr) := .inr ⟨0x9C, [Machine.lo addr, Machine.hi addr], rfl, rfl⟩
theorem staAbx (addr : Addr) : Statement (.staAbx addr) := .inr ⟨0x9D, [Machine.lo addr, Machine.hi addr], rfl, rfl⟩
theorem shxAby (addr : Addr) : Statement (.shxAby addr) := .inr ⟨0x9E, [Machine.lo addr, Machine.hi addr], rfl, rfl⟩
theorem shaAby (addr : Addr) : Statement (.shaAby addr) := .inr ⟨0x9F, [Machine.lo addr, Machine.hi addr], rfl, rfl⟩
theorem ldyImm (v : Byte) : Statement (.ldyImm v) := .inr ⟨0xA0, [v], rfl, rfl⟩
theorem ldaIzx (zp : Byte) : Statement (.ldaIzx zp) := .inr ⟨0xA1, [zp], rfl, rfl⟩
theorem ldxImm (v : Byte) : Statement (.ldxImm v) := .inr ⟨0xA2, [v], rfl, rfl⟩
theorem laxIzx (zp : Byte) : Statement (.laxIzx zp) := .inr ⟨0xA3, [zp], rfl, rfl⟩
theorem ldyZp (zp : Byte) : Statement (.ldyZp zp) := .inr ⟨0xA4, [zp], rfl, rfl⟩
theorem ldaZp (zp : Byte) : Statement (.ldaZp zp) := .inr ⟨0xA5, [zp], rfl, rfl⟩
theorem ldxZp (zp : Byte) : Statement (.ldxZp zp) := .inr ⟨0xA6, [zp], rfl, rfl⟩
theorem laxZp (zp : Byte) : Statement (.laxZp zp) := .inr ⟨0xA7, [zp], rfl, rfl⟩
theorem tay : Statement .tay := .inr ⟨0xA8, [], rfl, rfl⟩
theorem ldaImm (v : Byte) : Statement (.ldaImm v) := .inr ⟨0xA9, [v], rfl, rfl⟩
theorem tax : Statement .tax := .inr ⟨0xAA, [], rfl, rfl⟩
theorem lxaImm (v : Byte) : Statement (.lxaImm v) := .inr ⟨0xAB, [v], rfl, rfl⟩
theorem ldyAbs (addr : Addr) : Statement (.ldyAbs addr) := .inr ⟨0xAC, [Machine.lo addr, Machine.hi addr], rfl, rfl⟩
theorem ldaAbs (addr : Addr) : Statement (.ldaAbs addr) := .inr ⟨0xAD, [Machine.lo addr, Machine.hi addr], rfl, rfl⟩
theorem ldxAbs (addr : Addr) : Statement (.ldxAbs addr) := .inr ⟨0xAE, [Machine.lo addr, Machine.hi addr], rfl, rfl⟩
theorem laxAbs (addr : Addr) : Statement (.laxAbs addr) := .inr ⟨0xAF, [Machine.lo addr, Machine.hi addr], rfl, rfl⟩
theorem bcsRel (disp : Byte) : Statement (.bcsRel disp) := .inr ⟨0xB0, [disp], rfl, rfl⟩
theorem ldaIzy (zp : Byte) : Statement (.ldaIzy zp) := .inr ⟨0xB1, [zp], rfl, rfl⟩
theorem jamB2 : Statement .jamB2 := .inr ⟨0xB2, [], rfl, rfl⟩
theorem laxIzy (zp : Byte) : Statement (.laxIzy zp) := .inr ⟨0xB3, [zp], rfl, rfl⟩
theorem ldyZpx (zp : Byte) : Statement (.ldyZpx zp) := .inr ⟨0xB4, [zp], rfl, rfl⟩
theorem ldaZpx (zp : Byte) : Statement (.ldaZpx zp) := .inr ⟨0xB5, [zp], rfl, rfl⟩
theorem ldxZpy (zp : Byte) : Statement (.ldxZpy zp) := .inr ⟨0xB6, [zp], rfl, rfl⟩
theorem laxZpy (zp : Byte) : Statement (.laxZpy zp) := .inr ⟨0xB7, [zp], rfl, rfl⟩
theorem clv : Statement .clv := .inr ⟨0xB8, [], rfl, rfl⟩
theorem ldaAby (addr : Addr) : Statement (.ldaAby addr) := .inr ⟨0xB9, [Machine.lo addr, Machine.hi addr], rfl, rfl⟩
theorem tsx : Statement .tsx := .inr ⟨0xBA, [], rfl, rfl⟩
theorem lasAby (addr : Addr) : Statement (.lasAby addr) := .inr ⟨0xBB, [Machine.lo addr, Machine.hi addr], rfl, rfl⟩
theorem ldyAbx (addr : Addr) : Statement (.ldyAbx addr) := .inr ⟨0xBC, [Machine.lo addr, Machine.hi addr], rfl, rfl⟩
theorem ldaAbx (addr : Addr) : Statement (.ldaAbx addr) := .inr ⟨0xBD, [Machine.lo addr, Machine.hi addr], rfl, rfl⟩
theorem ldxAby (addr : Addr) : Statement (.ldxAby addr) := .inr ⟨0xBE, [Machine.lo addr, Machine.hi addr], rfl, rfl⟩
theorem laxAby (addr : Addr) : Statement (.laxAby addr) := .inr ⟨0xBF, [Machine.lo addr, Machine.hi addr], rfl, rfl⟩
theorem cpyImm (v : Byte) : Statement (.cpyImm v) := .inr ⟨0xC0, [v], rfl, rfl⟩
theorem cmpIzx (zp : Byte) : Statement (.cmpIzx zp) := .inr ⟨0xC1, [zp], rfl, rfl⟩
theorem nopImmC2 (v : Byte) : Statement (.nopImmC2 v) := .inr ⟨0xC2, [v], rfl, rfl⟩
theorem dcpIzx (zp : Byte) : Statement (.dcpIzx zp) := .inr ⟨0xC3, [zp], rfl, rfl⟩
theorem cpyZp (zp : Byte) : Statement (.cpyZp zp) := .inr ⟨0xC4, [zp], rfl, rfl⟩
theorem cmpZp (zp : Byte) : Statement (.cmpZp zp) := .inr ⟨0xC5, [zp], rfl, rfl⟩
theorem decZp (zp : Byte) : Statement (.decZp zp) := .inr ⟨0xC6, [zp], rfl, rfl⟩
theorem dcpZp (zp : Byte) : Statement (.dcpZp zp) := .inr ⟨0xC7, [zp], rfl, rfl⟩
theorem iny : Statement .iny := .inr ⟨0xC8, [], rfl, rfl⟩
theorem cmpImm (v : Byte) : Statement (.cmpImm v) := .inr ⟨0xC9, [v], rfl, rfl⟩
theorem dex : Statement .dex := .inr ⟨0xCA, [], rfl, rfl⟩
theorem sbxImm (v : Byte) : Statement (.sbxImm v) := .inr ⟨0xCB, [v], rfl, rfl⟩
theorem cpyAbs (addr : Addr) : Statement (.cpyAbs addr) := .inr ⟨0xCC, [Machine.lo addr, Machine.hi addr], rfl, rfl⟩
theorem cmpAbs (addr : Addr) : Statement (.cmpAbs addr) := .inr ⟨0xCD, [Machine.lo addr, Machine.hi addr], rfl, rfl⟩
theorem decAbs (addr : Addr) : Statement (.decAbs addr) := .inr ⟨0xCE, [Machine.lo addr, Machine.hi addr], rfl, rfl⟩
theorem dcpAbs (addr : Addr) : Statement (.dcpAbs addr) := .inr ⟨0xCF, [Machine.lo addr, Machine.hi addr], rfl, rfl⟩
theorem bneRel (disp : Byte) : Statement (.bneRel disp) := .inr ⟨0xD0, [disp], rfl, rfl⟩
theorem cmpIzy (zp : Byte) : Statement (.cmpIzy zp) := .inr ⟨0xD1, [zp], rfl, rfl⟩
theorem jamD2 : Statement .jamD2 := .inr ⟨0xD2, [], rfl, rfl⟩
theorem dcpIzy (zp : Byte) : Statement (.dcpIzy zp) := .inr ⟨0xD3, [zp], rfl, rfl⟩
theorem nopZpxD4 (zp : Byte) : Statement (.nopZpxD4 zp) := .inr ⟨0xD4, [zp], rfl, rfl⟩
theorem cmpZpx (zp : Byte) : Statement (.cmpZpx zp) := .inr ⟨0xD5, [zp], rfl, rfl⟩
theorem decZpx (zp : Byte) : Statement (.decZpx zp) := .inr ⟨0xD6, [zp], rfl, rfl⟩
theorem dcpZpx (zp : Byte) : Statement (.dcpZpx zp) := .inr ⟨0xD7, [zp], rfl, rfl⟩
theorem cld : Statement .cld := .inr ⟨0xD8, [], rfl, rfl⟩
theorem cmpAby (addr : Addr) : Statement (.cmpAby addr) := .inr ⟨0xD9, [Machine.lo addr, Machine.hi addr], rfl, rfl⟩
theorem nopImpDA : Statement .nopImpDA := .inr ⟨0xDA, [], rfl, rfl⟩
theorem dcpAby (addr : Addr) : Statement (.dcpAby addr) := .inr ⟨0xDB, [Machine.lo addr, Machine.hi addr], rfl, rfl⟩
theorem nopAbxDC (addr : Addr) : Statement (.nopAbxDC addr) := .inr ⟨0xDC, [Machine.lo addr, Machine.hi addr], rfl, rfl⟩
theorem cmpAbx (addr : Addr) : Statement (.cmpAbx addr) := .inr ⟨0xDD, [Machine.lo addr, Machine.hi addr], rfl, rfl⟩
theorem decAbx (addr : Addr) : Statement (.decAbx addr) := .inr ⟨0xDE, [Machine.lo addr, Machine.hi addr], rfl, rfl⟩
theorem dcpAbx (addr : Addr) : Statement (.dcpAbx addr) := .inr ⟨0xDF, [Machine.lo addr, Machine.hi addr], rfl, rfl⟩
theorem cpxImm (v : Byte) : Statement (.cpxImm v) := .inr ⟨0xE0, [v], rfl, rfl⟩
theorem sbcIzx (zp : Byte) : Statement (.sbcIzx zp) := .inr ⟨0xE1, [zp], rfl, rfl⟩
theorem nopImmE2 (v : Byte) : Statement (.nopImmE2 v) := .inr ⟨0xE2, [v], rfl, rfl⟩
theorem iscIzx (zp : Byte) : Statement (.iscIzx zp) := .inr ⟨0xE3, [zp], rfl, rfl⟩
theorem cpxZp (zp : Byte) : Statement (.cpxZp zp) := .inr ⟨0xE4, [zp], rfl, rfl⟩
theorem sbcZp (zp : Byte) : Statement (.sbcZp zp) := .inr ⟨0xE5, [zp], rfl, rfl⟩
theorem incZp (zp : Byte) : Statement (.incZp zp) := .inr ⟨0xE6, [zp], rfl, rfl⟩
theorem iscZp (zp : Byte) : Statement (.iscZp zp) := .inr ⟨0xE7, [zp], rfl, rfl⟩
theorem inx : Statement .inx := .inr ⟨0xE8, [], rfl, rfl⟩
theorem sbcImm (v : Byte) : Statement (.sbcImm v) := .inr ⟨0xE9, [v], rfl, rfl⟩
theorem nopImpEA : Statement .nopImpEA := .inr ⟨0xEA, [], rfl, rfl⟩
theorem usbcImm (v : Byte) : Statement (.usbcImm v) := .inr ⟨0xEB, [v], rfl, rfl⟩
theorem cpxAbs (addr : Addr) : Statement (.cpxAbs addr) := .inr ⟨0xEC, [Machine.lo addr, Machine.hi addr], rfl, rfl⟩
theorem sbcAbs (addr : Addr) : Statement (.sbcAbs addr) := .inr ⟨0xED, [Machine.lo addr, Machine.hi addr], rfl, rfl⟩
theorem incAbs (addr : Addr) : Statement (.incAbs addr) := .inr ⟨0xEE, [Machine.lo addr, Machine.hi addr], rfl, rfl⟩
theorem iscAbs (addr : Addr) : Statement (.iscAbs addr) := .inr ⟨0xEF, [Machine.lo addr, Machine.hi addr], rfl, rfl⟩
theorem beqRel (disp : Byte) : Statement (.beqRel disp) := .inr ⟨0xF0, [disp], rfl, rfl⟩
theorem sbcIzy (zp : Byte) : Statement (.sbcIzy zp) := .inr ⟨0xF1, [zp], rfl, rfl⟩
theorem jamF2 : Statement .jamF2 := .inr ⟨0xF2, [], rfl, rfl⟩
theorem iscIzy (zp : Byte) : Statement (.iscIzy zp) := .inr ⟨0xF3, [zp], rfl, rfl⟩
theorem nopZpxF4 (zp : Byte) : Statement (.nopZpxF4 zp) := .inr ⟨0xF4, [zp], rfl, rfl⟩
theorem sbcZpx (zp : Byte) : Statement (.sbcZpx zp) := .inr ⟨0xF5, [zp], rfl, rfl⟩
theorem incZpx (zp : Byte) : Statement (.incZpx zp) := .inr ⟨0xF6, [zp], rfl, rfl⟩
theorem iscZpx (zp : Byte) : Statement (.iscZpx zp) := .inr ⟨0xF7, [zp], rfl, rfl⟩
theorem sed : Statement .sed := .inr ⟨0xF8, [], rfl, rfl⟩
theorem sbcAby (addr : Addr) : Statement (.sbcAby addr) := .inr ⟨0xF9, [Machine.lo addr, Machine.hi addr], rfl, rfl⟩
theorem nopImpFA : Statement .nopImpFA := .inr ⟨0xFA, [], rfl, rfl⟩
theorem iscAby (addr : Addr) : Statement (.iscAby addr) := .inr ⟨0xFB, [Machine.lo addr, Machine.hi addr], rfl, rfl⟩
theorem nopAbxFC (addr : Addr) : Statement (.nopAbxFC addr) := .inr ⟨0xFC, [Machine.lo addr, Machine.hi addr], rfl, rfl⟩
theorem sbcAbx (addr : Addr) : Statement (.sbcAbx addr) := .inr ⟨0xFD, [Machine.lo addr, Machine.hi addr], rfl, rfl⟩
theorem incAbx (addr : Addr) : Statement (.incAbx addr) := .inr ⟨0xFE, [Machine.lo addr, Machine.hi addr], rfl, rfl⟩
theorem iscAbx (addr : Addr) : Statement (.iscAbx addr) := .inr ⟨0xFF, [Machine.lo addr, Machine.hi addr], rfl, rfl⟩
theorem reset : Statement .reset := .inl rfl

end Sys2Proof.Laws.EncodedForm
end

