-- ==== Sys2Proof/Laws/State.lean ====
section
/-! SUPPORT. The fields of the engine and of the state after each named update, one lemma for each, true by definition. -/

namespace Sys2Proof.Machine

/-! `Cpu.setFlag` (spec/10_state.md rule R10, R30). -/

@[simp] theorem Cpu.setFlag_pc (c : Cpu) (f : Flag) (on : Bool) : (c.setFlag f on).pc = c.pc := rfl
@[simp] theorem Cpu.setFlag_sp (c : Cpu) (f : Flag) (on : Bool) : (c.setFlag f on).sp = c.sp := rfl
@[simp] theorem Cpu.setFlag_zpa (c : Cpu) (f : Flag) (on : Bool) : (c.setFlag f on).zpa = c.zpa := rfl
@[simp] theorem Cpu.setFlag_a1 (c : Cpu) (f : Flag) (on : Bool) : (c.setFlag f on).a1 = c.a1 := rfl
@[simp] theorem Cpu.setFlag_a2 (c : Cpu) (f : Flag) (on : Bool) : (c.setFlag f on).a2 = c.a2 := rfl
@[simp] theorem Cpu.setFlag_a3 (c : Cpu) (f : Flag) (on : Bool) : (c.setFlag f on).a3 = c.a3 := rfl
@[simp] theorem Cpu.setFlag_a4 (c : Cpu) (f : Flag) (on : Bool) : (c.setFlag f on).a4 = c.a4 := rfl
@[simp] theorem Cpu.setFlag_d (c : Cpu) (f : Flag) (on : Bool) : (c.setFlag f on).d = c.d := rfl
@[simp] theorem Cpu.setFlag_ir (c : Cpu) (f : Flag) (on : Bool) : (c.setFlag f on).ir = c.ir := rfl
@[simp] theorem Cpu.setFlag_p (c : Cpu) (f : Flag) (on : Bool) : (c.setFlag f on).p = Sys2Proof.Machine.setFlag c.p f on := rfl
@[simp] theorem Cpu.setFlag_a (c : Cpu) (f : Flag) (on : Bool) : (c.setFlag f on).a = c.a := rfl
@[simp] theorem Cpu.setFlag_x (c : Cpu) (f : Flag) (on : Bool) : (c.setFlag f on).x = c.x := rfl
@[simp] theorem Cpu.setFlag_y (c : Cpu) (f : Flag) (on : Bool) : (c.setFlag f on).y = c.y := rfl
@[simp] theorem Cpu.setFlag_mcp (c : Cpu) (f : Flag) (on : Bool) : (c.setFlag f on).mcp = c.mcp := rfl
@[simp] theorem Cpu.setFlag_nmiT (c : Cpu) (f : Flag) (on : Bool) : (c.setFlag f on).nmiT = c.nmiT := rfl
@[simp] theorem Cpu.setFlag_irqT (c : Cpu) (f : Flag) (on : Bool) : (c.setFlag f on).irqT = c.irqT := rfl
@[simp] theorem Cpu.setFlag_nmiLine (c : Cpu) (f : Flag) (on : Bool) : (c.setFlag f on).nmiLine = c.nmiLine := rfl
@[simp] theorem Cpu.setFlag_brkSrcs (c : Cpu) (f : Flag) (on : Bool) : (c.setFlag f on).brkSrcs = c.brkSrcs := rfl

/-! `Cpu.setS` (rule R26). -/

@[simp] theorem Cpu.setS_pc (c : Cpu) (b : Byte) : (c.setS b).pc = c.pc := rfl
@[simp] theorem Cpu.setS_sp (c : Cpu) (b : Byte) : (c.setS b).sp = setLo c.sp b := rfl
@[simp] theorem Cpu.setS_zpa (c : Cpu) (b : Byte) : (c.setS b).zpa = c.zpa := rfl
@[simp] theorem Cpu.setS_a1 (c : Cpu) (b : Byte) : (c.setS b).a1 = c.a1 := rfl
@[simp] theorem Cpu.setS_a2 (c : Cpu) (b : Byte) : (c.setS b).a2 = c.a2 := rfl
@[simp] theorem Cpu.setS_a3 (c : Cpu) (b : Byte) : (c.setS b).a3 = c.a3 := rfl
@[simp] theorem Cpu.setS_a4 (c : Cpu) (b : Byte) : (c.setS b).a4 = c.a4 := rfl
@[simp] theorem Cpu.setS_d (c : Cpu) (b : Byte) : (c.setS b).d = c.d := rfl
@[simp] theorem Cpu.setS_ir (c : Cpu) (b : Byte) : (c.setS b).ir = c.ir := rfl
@[simp] theorem Cpu.setS_p (c : Cpu) (b : Byte) : (c.setS b).p = c.p := rfl
@[simp] theorem Cpu.setS_a (c : Cpu) (b : Byte) : (c.setS b).a = c.a := rfl
@[simp] theorem Cpu.setS_x (c : Cpu) (b : Byte) : (c.setS b).x = c.x := rfl
@[simp] theorem Cpu.setS_y (c : Cpu) (b : Byte) : (c.setS b).y = c.y := rfl
@[simp] theorem Cpu.setS_mcp (c : Cpu) (b : Byte) : (c.setS b).mcp = c.mcp := rfl
@[simp] theorem Cpu.setS_nmiT (c : Cpu) (b : Byte) : (c.setS b).nmiT = c.nmiT := rfl
@[simp] theorem Cpu.setS_irqT (c : Cpu) (b : Byte) : (c.setS b).irqT = c.irqT := rfl
@[simp] theorem Cpu.setS_nmiLine (c : Cpu) (b : Byte) : (c.setS b).nmiLine = c.nmiLine := rfl
@[simp] theorem Cpu.setS_brkSrcs (c : Cpu) (b : Byte) : (c.setS b).brkSrcs = c.brkSrcs := rfl

/-! `decSp`, `incSp` (spec/40_engine.md rules R194, R195). -/

@[simp] theorem decSp_pc (c : Cpu) : (decSp c).pc = c.pc := rfl
@[simp] theorem decSp_sp (c : Cpu) : (decSp c).sp = setLo c.sp (c.s - 1) := rfl
@[simp] theorem decSp_zpa (c : Cpu) : (decSp c).zpa = c.zpa := rfl
@[simp] theorem decSp_a1 (c : Cpu) : (decSp c).a1 = c.a1 := rfl
@[simp] theorem decSp_a2 (c : Cpu) : (decSp c).a2 = c.a2 := rfl
@[simp] theorem decSp_a3 (c : Cpu) : (decSp c).a3 = c.a3 := rfl
@[simp] theorem decSp_a4 (c : Cpu) : (decSp c).a4 = c.a4 := rfl
@[simp] theorem decSp_d (c : Cpu) : (decSp c).d = c.d := rfl
@[simp] theorem decSp_ir (c : Cpu) : (decSp c).ir = c.ir := rfl
@[simp] theorem decSp_p (c : Cpu) : (decSp c).p = c.p := rfl
@[simp] theorem decSp_a (c : Cpu) : (decSp c).a = c.a := rfl
@[simp] theorem decSp_x (c : Cpu) : (decSp c).x = c.x := rfl
@[simp] theorem decSp_y (c : Cpu) : (decSp c).y = c.y := rfl
@[simp] theorem decSp_mcp (c : Cpu) : (decSp c).mcp = c.mcp := rfl
@[simp] theorem decSp_nmiT (c : Cpu) : (decSp c).nmiT = c.nmiT := rfl
@[simp] theorem decSp_irqT (c : Cpu) : (decSp c).irqT = c.irqT := rfl
@[simp] theorem decSp_nmiLine (c : Cpu) : (decSp c).nmiLine = c.nmiLine := rfl
@[simp] theorem decSp_brkSrcs (c : Cpu) : (decSp c).brkSrcs = c.brkSrcs := rfl

@[simp] theorem incSp_pc (c : Cpu) : (incSp c).pc = c.pc := rfl
@[simp] theorem incSp_sp (c : Cpu) : (incSp c).sp = setLo c.sp (c.s + 1) := rfl
@[simp] theorem incSp_zpa (c : Cpu) : (incSp c).zpa = c.zpa := rfl
@[simp] theorem incSp_a1 (c : Cpu) : (incSp c).a1 = c.a1 := rfl
@[simp] theorem incSp_a2 (c : Cpu) : (incSp c).a2 = c.a2 := rfl
@[simp] theorem incSp_a3 (c : Cpu) : (incSp c).a3 = c.a3 := rfl
@[simp] theorem incSp_a4 (c : Cpu) : (incSp c).a4 = c.a4 := rfl
@[simp] theorem incSp_d (c : Cpu) : (incSp c).d = c.d := rfl
@[simp] theorem incSp_ir (c : Cpu) : (incSp c).ir = c.ir := rfl
@[simp] theorem incSp_p (c : Cpu) : (incSp c).p = c.p := rfl
@[simp] theorem incSp_a (c : Cpu) : (incSp c).a = c.a := rfl
@[simp] theorem incSp_x (c : Cpu) : (incSp c).x = c.x := rfl
@[simp] theorem incSp_y (c : Cpu) : (incSp c).y = c.y := rfl
@[simp] theorem incSp_mcp (c : Cpu) : (incSp c).mcp = c.mcp := rfl
@[simp] theorem incSp_nmiT (c : Cpu) : (incSp c).nmiT = c.nmiT := rfl
@[simp] theorem incSp_irqT (c : Cpu) : (incSp c).irqT = c.irqT := rfl
@[simp] theorem incSp_nmiLine (c : Cpu) : (incSp c).nmiLine = c.nmiLine := rfl
@[simp] theorem incSp_brkSrcs (c : Cpu) : (incSp c).brkSrcs = c.brkSrcs := rfl

/-! `advanceDelays` (rule R173). -/

@[simp] theorem advanceDelays_pc (c : Cpu) : (advanceDelays c).pc = c.pc := rfl
@[simp] theorem advanceDelays_sp (c : Cpu) : (advanceDelays c).sp = c.sp := rfl
@[simp] theorem advanceDelays_zpa (c : Cpu) : (advanceDelays c).zpa = c.zpa := rfl
@[simp] theorem advanceDelays_a1 (c : Cpu) : (advanceDelays c).a1 = c.a1 := rfl
@[simp] theorem advanceDelays_a2 (c : Cpu) : (advanceDelays c).a2 = c.a2 := rfl
@[simp] theorem advanceDelays_a3 (c : Cpu) : (advanceDelays c).a3 = c.a3 := rfl
@[simp] theorem advanceDelays_a4 (c : Cpu) : (advanceDelays c).a4 = c.a4 := rfl
@[simp] theorem advanceDelays_d (c : Cpu) : (advanceDelays c).d = c.d := rfl
@[simp] theorem advanceDelays_ir (c : Cpu) : (advanceDelays c).ir = c.ir := rfl
@[simp] theorem advanceDelays_p (c : Cpu) : (advanceDelays c).p = c.p := rfl
@[simp] theorem advanceDelays_a (c : Cpu) : (advanceDelays c).a = c.a := rfl
@[simp] theorem advanceDelays_x (c : Cpu) : (advanceDelays c).x = c.x := rfl
@[simp] theorem advanceDelays_y (c : Cpu) : (advanceDelays c).y = c.y := rfl
@[simp] theorem advanceDelays_mcp (c : Cpu) : (advanceDelays c).mcp = c.mcp := rfl
@[simp] theorem advanceDelays_nmiT (c : Cpu) : (advanceDelays c).nmiT = c.nmiT.advance := rfl
@[simp] theorem advanceDelays_irqT (c : Cpu) : (advanceDelays c).irqT = c.irqT.advance := rfl
@[simp] theorem advanceDelays_nmiLine (c : Cpu) : (advanceDelays c).nmiLine = c.nmiLine := rfl
@[simp] theorem advanceDelays_brkSrcs (c : Cpu) : (advanceDelays c).brkSrcs = c.brkSrcs := rfl

/-! `retire` (rule R173). -/

@[simp] theorem retire_pc (m : MicroOp) (c : Cpu) : (retire m c).pc = (if m.inc then c.pc + 1 else c.pc) := rfl
@[simp] theorem retire_sp (m : MicroOp) (c : Cpu) : (retire m c).sp = c.sp := rfl
@[simp] theorem retire_zpa (m : MicroOp) (c : Cpu) : (retire m c).zpa = c.zpa := rfl
@[simp] theorem retire_a1 (m : MicroOp) (c : Cpu) : (retire m c).a1 = c.a1 := rfl
@[simp] theorem retire_a2 (m : MicroOp) (c : Cpu) : (retire m c).a2 = c.a2 := rfl
@[simp] theorem retire_a3 (m : MicroOp) (c : Cpu) : (retire m c).a3 = c.a3 := rfl
@[simp] theorem retire_a4 (m : MicroOp) (c : Cpu) : (retire m c).a4 = c.a4 := rfl
@[simp] theorem retire_d (m : MicroOp) (c : Cpu) : (retire m c).d = c.d := rfl
@[simp] theorem retire_ir (m : MicroOp) (c : Cpu) : (retire m c).ir = c.ir := rfl
@[simp] theorem retire_p (m : MicroOp) (c : Cpu) : (retire m c).p = c.p := rfl
@[simp] theorem retire_a (m : MicroOp) (c : Cpu) : (retire m c).a = c.a := rfl
@[simp] theorem retire_x (m : MicroOp) (c : Cpu) : (retire m c).x = c.x := rfl
@[simp] theorem retire_y (m : MicroOp) (c : Cpu) : (retire m c).y = c.y := rfl
@[simp] theorem retire_mcp (m : MicroOp) (c : Cpu) : (retire m c).mcp = c.mcp + 1 := rfl
@[simp] theorem retire_nmiT (m : MicroOp) (c : Cpu) : (retire m c).nmiT = c.nmiT := rfl
@[simp] theorem retire_irqT (m : MicroOp) (c : Cpu) : (retire m c).irqT = c.irqT := rfl
@[simp] theorem retire_nmiLine (m : MicroOp) (c : Cpu) : (retire m c).nmiLine = c.nmiLine := rfl
@[simp] theorem retire_brkSrcs (m : MicroOp) (c : Cpu) : (retire m c).brkSrcs = c.brkSrcs := rfl

/-! `indexA1` (rules R182, R183). -/

@[simp] theorem indexA1_pc (i : Byte) (c : Cpu) : (indexA1 i c).pc = c.pc := rfl
@[simp] theorem indexA1_sp (i : Byte) (c : Cpu) : (indexA1 i c).sp = c.sp := rfl
@[simp] theorem indexA1_zpa (i : Byte) (c : Cpu) : (indexA1 i c).zpa = c.zpa := rfl
@[simp] theorem indexA1_a1 (i : Byte) (c : Cpu) : (indexA1 i c).a1 = setLo c.a1 (lo c.a1 + i) := rfl
@[simp] theorem indexA1_a2 (i : Byte) (c : Cpu) : (indexA1 i c).a2 = c.a1 + zext16 i := rfl
@[simp] theorem indexA1_a3 (i : Byte) (c : Cpu) : (indexA1 i c).a3 = c.a3 := rfl
@[simp] theorem indexA1_a4 (i : Byte) (c : Cpu) : (indexA1 i c).a4 = c.a4 := rfl
@[simp] theorem indexA1_d (i : Byte) (c : Cpu) : (indexA1 i c).d = c.d := rfl
@[simp] theorem indexA1_ir (i : Byte) (c : Cpu) : (indexA1 i c).ir = c.ir := rfl
@[simp] theorem indexA1_p (i : Byte) (c : Cpu) : (indexA1 i c).p = c.p := rfl
@[simp] theorem indexA1_a (i : Byte) (c : Cpu) : (indexA1 i c).a = c.a := rfl
@[simp] theorem indexA1_x (i : Byte) (c : Cpu) : (indexA1 i c).x = c.x := rfl
@[simp] theorem indexA1_y (i : Byte) (c : Cpu) : (indexA1 i c).y = c.y := rfl
@[simp] theorem indexA1_mcp (i : Byte) (c : Cpu) : (indexA1 i c).mcp = c.mcp := rfl
@[simp] theorem indexA1_nmiT (i : Byte) (c : Cpu) : (indexA1 i c).nmiT = c.nmiT := rfl
@[simp] theorem indexA1_irqT (i : Byte) (c : Cpu) : (indexA1 i c).irqT = c.irqT := rfl
@[simp] theorem indexA1_nmiLine (i : Byte) (c : Cpu) : (indexA1 i c).nmiLine = c.nmiLine := rfl
@[simp] theorem indexA1_brkSrcs (i : Byte) (c : Cpu) : (indexA1 i c).brkSrcs = c.brkSrcs := rfl

/-! `warmResetCpu` (spec/70_reset_and_hazards.md rule R471), but for `P`. -/

@[simp] theorem warmResetCpu_pc (c : Cpu) : (warmResetCpu c).pc = c.pc := rfl
@[simp] theorem warmResetCpu_sp (c : Cpu) : (warmResetCpu c).sp = c.sp := rfl
@[simp] theorem warmResetCpu_zpa (c : Cpu) : (warmResetCpu c).zpa = c.zpa := rfl
@[simp] theorem warmResetCpu_a1 (c : Cpu) : (warmResetCpu c).a1 = c.a1 := rfl
@[simp] theorem warmResetCpu_a2 (c : Cpu) : (warmResetCpu c).a2 = c.a2 := rfl
@[simp] theorem warmResetCpu_a3 (c : Cpu) : (warmResetCpu c).a3 = c.a3 := rfl
@[simp] theorem warmResetCpu_a4 (c : Cpu) : (warmResetCpu c).a4 = c.a4 := rfl
@[simp] theorem warmResetCpu_d (c : Cpu) : (warmResetCpu c).d = c.d := rfl
@[simp] theorem warmResetCpu_ir (c : Cpu) : (warmResetCpu c).ir = c.ir := rfl
@[simp] theorem warmResetCpu_a (c : Cpu) : (warmResetCpu c).a = c.a := rfl
@[simp] theorem warmResetCpu_x (c : Cpu) : (warmResetCpu c).x = c.x := rfl
@[simp] theorem warmResetCpu_y (c : Cpu) : (warmResetCpu c).y = c.y := rfl
@[simp] theorem warmResetCpu_mcp (c : Cpu) : (warmResetCpu c).mcp = resetStart := rfl
@[simp] theorem warmResetCpu_nmiT (c : Cpu) : (warmResetCpu c).nmiT = .idle := rfl
@[simp] theorem warmResetCpu_irqT (c : Cpu) : (warmResetCpu c).irqT = .idle := rfl
@[simp] theorem warmResetCpu_nmiLine (c : Cpu) : (warmResetCpu c).nmiLine = c.nmiLine := rfl
@[simp] theorem warmResetCpu_brkSrcs (c : Cpu) : (warmResetCpu c).brkSrcs = 0 := rfl

/-! `recompute` (spec/20_memory.md rule R97). -/

@[simp] theorem recompute_cpu (s : State) : (recompute s).cpu = s.cpu := rfl
@[simp] theorem recompute_ddr (s : State) : (recompute s).ddr = s.ddr := rfl
@[simp] theorem recompute_pdata (s : State) : (recompute s).pdata = s.pdata := rfl
@[simp] theorem recompute_exrom (s : State) : (recompute s).exrom = s.exrom := rfl
@[simp] theorem recompute_game (s : State) : (recompute s).game = s.game := rfl
@[simp] theorem recompute_cfg (s : State) : (recompute s).cfg = cfgOf s.ddr s.pdata s.exrom s.game := rfl
@[simp] theorem recompute_ram (s : State) : (recompute s).ram = s.ram := rfl
@[simp] theorem recompute_secCnt (s : State) : (recompute s).secCnt = s.secCnt := rfl
@[simp] theorem recompute_drive (s : State) : (recompute s).drive = s.drive := rfl
@[simp] theorem recompute_inputs (s : State) : (recompute s).inputs = s.inputs := rfl
@[simp] theorem recompute_clock (s : State) : (recompute s).clock = s.clock := rfl
@[simp] theorem recompute_trace (s : State) : (recompute s).trace = s.trace := rfl

/-! `clearTrace`, the start of a step. -/

@[simp] theorem clearTrace_cpu (s : State) : (clearTrace s).cpu = s.cpu := rfl
@[simp] theorem clearTrace_ddr (s : State) : (clearTrace s).ddr = s.ddr := rfl
@[simp] theorem clearTrace_pdata (s : State) : (clearTrace s).pdata = s.pdata := rfl
@[simp] theorem clearTrace_exrom (s : State) : (clearTrace s).exrom = s.exrom := rfl
@[simp] theorem clearTrace_game (s : State) : (clearTrace s).game = s.game := rfl
@[simp] theorem clearTrace_cfg (s : State) : (clearTrace s).cfg = s.cfg := rfl
@[simp] theorem clearTrace_ram (s : State) : (clearTrace s).ram = s.ram := rfl
@[simp] theorem clearTrace_secCnt (s : State) : (clearTrace s).secCnt = s.secCnt := rfl
@[simp] theorem clearTrace_inputs (s : State) : (clearTrace s).inputs = s.inputs := rfl
@[simp] theorem clearTrace_clock (s : State) : (clearTrace s).clock = s.clock := rfl
@[simp] theorem clearTrace_trace (s : State) : (clearTrace s).trace = [] := rfl

@[simp] theorem clearTrace_drive_cpu (s : State) : (clearTrace s).drive.cpu = s.drive.cpu := rfl
@[simp] theorem clearTrace_drive_ram (s : State) : (clearTrace s).drive.ram = s.drive.ram := rfl

end Sys2Proof.Machine
end

