-- ==== Sys2Proof/Laws/Steps.lean ====
section
/-! SUPPORT. What `exec` and `step` come to: the run of the instruction's own bytes (spec/40_engine.md rule R231), or the host
operation at the head of the queue; and the engine after a system cycle (rule R172). -/

namespace Sys2Proof.Machine

/-- At a boundary `runInstr` is the run of cycles from the state as it is. -/
theorem runInstr_boundary {s : State} (bytes : List Byte) (h : isBoundary s.cpu.mcp = true) :
    runInstr bytes s = .next (runSequence bytes s) := by
  unfold runInstr atFetch
  rw [if_pos h]

/-- The meaning of every instruction a program can write is the run of its encoding. -/
theorem exec_eq_runInstr {i : Instr} (h : i.wellFormed = true) (s : State) : exec i s = runInstr (encode i) s := by
  cases i <;> first | rfl | exact absurd h (by decide)

/-- At a boundary, in terms of the run of cycles. -/
theorem exec_boundary {i : Instr} {s : State} (h : i.wellFormed = true) (hb : isBoundary s.cpu.mcp = true) :
    exec i s = .next (runSequence (encode i) s) := (exec_eq_runInstr h s).trans (runInstr_boundary _ hb)

/-- `exec` answers a next state for every instruction in every state (rules R137, R410). -/
theorem exec_next (i : Instr) (s : State) : ∃ t, exec i s = .next t := by
  by_cases h : i.wellFormed = true
  · exact ⟨_, exec_eq_runInstr h s⟩
  · have : i = .reset := by simpa [Instr.wellFormed] using h
    exact ⟨_, by rw [this]; rfl⟩

/-- The encoding of an instruction a program can write starts with its opcode. -/
theorem encode_eq_cons {i : Instr} (h : i.wellFormed = true) : encode i = (encode i).headD 0 :: (encode i).tail := by
  cases i <;> first | rfl | exact absurd h (by decide)

/-- A run that begins with a queued host operation performs it and ends (rules R451, R470, R471). -/
theorem runSequence_host {s : State} {op : HostOp} {rest : List Event} (feed : List Byte)
    (h : s.inputs = .host op :: rest) :
    runSequence feed s = applyHost op { clearTrace s with inputs := rest } := by
  have hf : enoughFuel s = (rest.length + 9) + 1 := by simp [enoughFuel, h]
  unfold runSequence
  rw [hf, runCycles]
  simp only [clearTrace, h]

/-- The secondary step leaves the primary engine alone (rule R456). -/
@[simp] theorem secondaryStep_cpu (c : CycleInput) (s : State) : (secondaryStep c s).cpu = s.cpu := by
  unfold secondaryStep
  split <;> rfl

/-- A mode notification leaves the engine alone (rule R46). -/
@[simp] theorem notifyCart_cpu (s : State) (l : Option CartLines) : (notifyCart s l).cpu = s.cpu := by
  cases l <;> rfl

/-- What is queued after the coming cycle does not matter to it. -/
theorem cpuCycle_inputs (feed : List Byte) (c : CycleInput) (s : State) (q : List Event) :
    (cpuCycle feed c { s with inputs := q }).cpu = (cpuCycle feed c s).cpu := by
  simp only [cpuCycle, transact]
  cases (romAt s.cpu.mcp).rw
  · rfl
  · simp only [busWrite_cpu]

/-- The engine after a system cycle: ticked unless the bus is withheld, then both setters (rule R172). -/
theorem systemCycle_cpu (feed : List Byte) (s : State) :
    (systemCycle feed s).cpu = setLevels (nextInput s).irq (nextInput s).nmi (s.ticked feed) := by
  unfold systemCycle State.ticked
  simp only [secondaryStep_cpu, notifyCart_cpu]
  split
  · rfl
  · rw [cpuCycle_inputs]

/-- `set_irq` by cases (rule R420). -/
theorem setIrq_irqT (level : Bool) (c : Cpu) :
    (setIrq level c).irqT = if level then (if c.irqT = .idle then .requested else c.irqT) else .idle := by
  unfold setIrq
  split
  · split <;> rfl
  · rfl

/-- `set_irq` writes `IRQ_T` only (rule R420). -/
theorem setIrq_frame (level : Bool) (c : Cpu) : setIrq level c = { c with irqT := (setIrq level c).irqT } := by
  unfold setIrq
  split
  · split <;> rfl
  · rfl

/-- `set_nmi` in one record update (rule R421). -/
theorem setNmi_eq (level : Bool) (c : Cpu) :
    setNmi level c =
      { c with nmiT := (if level = true ∧ c.nmiLine = false ∧ c.nmiT = .idle then .requested else c.nmiT),
               nmiLine := level } := by
  unfold setNmi
  cases level <;> cases hl : c.nmiLine <;> cases hn : c.nmiT <;> simp [hn]

end Sys2Proof.Machine
end

