-- ==== Sys2Proof/Tests/Slice0.lean ====
section
/-! SUPPORT. The author's own tests: the decoder on every row of spec/30_encoding.md rule R134, the words of the micro-op
ROM (rule R144), one step on a small state for the instructions of spec/95_test_vectors.md, and for each obligation with
hypotheses a state and operands that meet them. -/

set_option Elab.async false

namespace Sys2Proof.Tests
open Sys2Proof.Machine

/-- The state of the conventions of spec/95_test_vectors.md: all-RAM configuration, a boundary, code at `pc`. -/
def start (pc : Addr) (a x y sp p : Byte) (m : List (Addr × Byte)) : State :=
  { State.reset with
    cpu := { Cpu.reset with pc := pc, sp := pair 0x01 sp, a := a, x := x, y := y, p := p, mcp := 1 },
    ddr := 0x07, cfg := 0, ram := Memory.ofPairs m }

/-- The state after an instruction. -/
def result (i : Instr) (s : State) : State :=
  match exec i s with
  | .next t => t
  | _ => s

/-- The state after a step. -/
def stepped (s : State) : State :=
  match step s with
  | .next t => t
  | _ => s

/-- `A`, `X`, `Y`, `S`, `P` and `PC`. -/
def regs (s : State) : List Byte × Addr := ([s.cpu.a, s.cpu.x, s.cpu.y, s.cpu.s, s.cpu.p], s.cpu.pc)

/-- A read at an address, or a write of a byte; `none` for a stalled cycle. -/
abbrev Cycle := Option (Addr × Option Byte)

def rd (a : Addr) : Cycle := some (a, none)

def wr (a : Addr) (b : Byte) : Cycle := some (a, some b)

def cycleOf : BusEvent → Cycle
  | .withheld => none
  | .access a .read _ _ _ => rd a
  | .access a .write b _ _ => wr a b

/-- The bus column of spec/95_test_vectors.md. -/
def bus (s : State) : List Cycle := s.trace.map cycleOf

/-- The queue entry of a cycle with these levels and stall. -/
def input (bw irq nmi : Bool) (n : Nat) : Event := .cycle { quietInput n with bw := bw, irq := irq, nmi := nmi }

/-! Well-formedness, the decoder's refusals, the host's two entry points. -/

/-- The reset row is no instruction a program can write (spec/30_encoding.md rules R137, R143). -/
theorem test_wellFormed_refuses_reset : Instr.wellFormed .reset = false := by decide

theorem test_wellFormed_accepts_any_operand : Instr.wellFormed (.ldaAbs 0xFFFF) = true := by decide

theorem test_decode_no_bytes : decode [] = .error .noBytes := by decide

theorem test_decode_truncated : decode [0xAD, 0x34] = .error (.truncated 2 1) := by decide

theorem test_tableWord_lda : decodeTableWord 16 0x42A9 = some (.ldaImm 0x42) := by decide

theorem test_tableWord_reset : decodeTableWord 0 0 = none := by decide

/-- Placed after reset, LDA #$42 is what the very next step runs. -/
theorem test_withFetchWord : (stepped (State.reset.withFetchWord 16 0x42A9)).cpu.a = 0x42 := by decide +kernel

/-! The decoder, on every row of the opcode matrix (spec/30_encoding.md rule R134), with operand bytes 34 12. -/

theorem test_decode_row_0 : ((List.range 16).map (fun k => (decode [BitVec.ofNat 8 (0x00 + k), 0x34, 0x12]).toOption)) =
  ([(.brk, [0x34, 0x12]), (.oraIzx 0x34, [0x12]), (.jam02, [0x34, 0x12]), (.sloIzx 0x34, [0x12]),
     (.nopZp04 0x34, [0x12]), (.oraZp 0x34, [0x12]), (.aslZp 0x34, [0x12]), (.sloZp 0x34, [0x12]),
     (.php, [0x34, 0x12]), (.oraImm 0x34, [0x12]), (.aslAcc, [0x34, 0x12]), (.ancImm0B 0x34, [0x12]),
     (.nopAbs 0x1234, []), (.oraAbs 0x1234, []), (.aslAbs 0x1234, []), (.sloAbs 0x1234, [])] : List (Instr × List Byte)).map some := by decide +kernel

theorem test_decode_row_1 : ((List.range 16).map (fun k => (decode [BitVec.ofNat 8 (0x10 + k), 0x34, 0x12]).toOption)) =
  ([(.bplRel 0x34, [0x12]), (.oraIzy 0x34, [0x12]), (.jam12, [0x34, 0x12]), (.sloIzy 0x34, [0x12]),
     (.nopZpx14 0x34, [0x12]), (.oraZpx 0x34, [0x12]), (.aslZpx 0x34, [0x12]), (.sloZpx 0x34, [0x12]),
     (.clc, [0x34, 0x12]), (.oraAby 0x1234, []), (.nopImp1A, [0x34, 0x12]), (.sloAby 0x1234, []),
     (.nopAbx1C 0x1234, []), (.oraAbx 0x1234, []), (.aslAbx 0x1234, []), (.sloAbx 0x1234, [])] : List (Instr × List Byte)).map some := by decide +kernel

theorem test_decode_row_2 : ((List.range 16).map (fun k => (decode [BitVec.ofNat 8 (0x20 + k), 0x34, 0x12]).toOption)) =
  ([(.jsrAbs 0x1234, []), (.andIzx 0x34, [0x12]), (.jam22, [0x34, 0x12]), (.rlaIzx 0x34, [0x12]),
     (.bitZp 0x34, [0x12]), (.andZp 0x34, [0x12]), (.rolZp 0x34, [0x12]), (.rlaZp 0x34, [0x12]),
     (.plp, [0x34, 0x12]), (.andImm 0x34, [0x12]), (.rolAcc, [0x34, 0x12]), (.ancImm2B 0x34, [0x12]),
     (.bitAbs 0x1234, []), (.andAbs 0x1234, []), (.rolAbs 0x1234, []), (.rlaAbs 0x1234, [])] : List (Instr × List Byte)).map some := by decide +kernel

theorem test_decode_row_3 : ((List.range 16).map (fun k => (decode [BitVec.ofNat 8 (0x30 + k), 0x34, 0x12]).toOption)) =
  ([(.bmiRel 0x34, [0x12]), (.andIzy 0x34, [0x12]), (.jam32, [0x34, 0x12]), (.rlaIzy 0x34, [0x12]),
     (.nopZpx34 0x34, [0x12]), (.andZpx 0x34, [0x12]), (.rolZpx 0x34, [0x12]), (.rlaZpx 0x34, [0x12]),
     (.sec, [0x34, 0x12]), (.andAby 0x1234, []), (.nopImp3A, [0x34, 0x12]), (.rlaAby 0x1234, []),
     (.nopAbx3C 0x1234, []), (.andAbx 0x1234, []), (.rolAbx 0x1234, []), (.rlaAbx 0x1234, [])] : List (Instr × List Byte)).map some := by decide +kernel

theorem test_decode_row_4 : ((List.range 16).map (fun k => (decode [BitVec.ofNat 8 (0x40 + k), 0x34, 0x12]).toOption)) =
  ([(.rti, [0x34, 0x12]), (.eorIzx 0x34, [0x12]), (.jam42, [0x34, 0x12]), (.sreIzx 0x34, [0x12]),
     (.nopZp44 0x34, [0x12]), (.eorZp 0x34, [0x12]), (.lsrZp 0x34, [0x12]), (.sreZp 0x34, [0x12]),
     (.pha, [0x34, 0x12]), (.eorImm 0x34, [0x12]), (.lsrAcc, [0x34, 0x12]), (.alrImm 0x34, [0x12]),
     (.jmpAbs 0x1234, []), (.eorAbs 0x1234, []), (.lsrAbs 0x1234, []), (.sreAbs 0x1234, [])] : List (Instr × List Byte)).map some := by decide +kernel

theorem test_decode_row_5 : ((List.range 16).map (fun k => (decode [BitVec.ofNat 8 (0x50 + k), 0x34, 0x12]).toOption)) =
  ([(.bvcRel 0x34, [0x12]), (.eorIzy 0x34, [0x12]), (.jam52, [0x34, 0x12]), (.sreIzy 0x34, [0x12]),
     (.nopZpx54 0x34, [0x12]), (.eorZpx 0x34, [0x12]), (.lsrZpx 0x34, [0x12]), (.sreZpx 0x34, [0x12]),
     (.cli, [0x34, 0x12]), (.eorAby 0x1234, []), (.nopImp5A, [0x34, 0x12]), (.sreAby 0x1234, []),
     (.nopAbx5C 0x1234, []), (.eorAbx 0x1234, []), (.lsrAbx 0x1234, []), (.sreAbx 0x1234, [])] : List (Instr × List Byte)).map some := by decide +kernel

theorem test_decode_row_6 : ((List.range 16).map (fun k => (decode [BitVec.ofNat 8 (0x60 + k), 0x34, 0x12]).toOption)) =
  ([(.rts, [0x34, 0x12]), (.adcIzx 0x34, [0x12]), (.jam62, [0x34, 0x12]), (.rraIzx 0x34, [0x12]),
     (.nopZp64 0x34, [0x12]), (.adcZp 0x34, [0x12]), (.rorZp 0x34, [0x12]), (.rraZp 0x34, [0x12]),
     (.pla, [0x34, 0x12]), (.adcImm 0x34, [0x12]), (.rorAcc, [0x34, 0x12]), (.arrImm 0x34, [0x12]),
     (.jmpInd 0x1234, []), (.adcAbs 0x1234, []), (.rorAbs 0x1234, []), (.rraAbs 0x1234, [])] : List (Instr × List Byte)).map some := by decide +kernel

theorem test_decode_row_7 : ((List.range 16).map (fun k => (decode [BitVec.ofNat 8 (0x70 + k), 0x34, 0x12]).toOption)) =
  ([(.bvsRel 0x34, [0x12]), (.adcIzy 0x34, [0x12]), (.jam72, [0x34, 0x12]), (.rraIzy 0x34, [0x12]),
     (.nopZpx74 0x34, [0x12]), (.adcZpx 0x34, [0x12]), (.rorZpx 0x34, [0x12]), (.rraZpx 0x34, [0x12]),
     (.sei, [0x34, 0x12]), (.adcAby 0x1234, []), (.nopImp7A, [0x34, 0x12]), (.rraAby 0x1234, []),
     (.nopAbx7C 0x1234, []), (.adcAbx 0x1234, []), (.rorAbx 0x1234, []), (.rraAbx 0x1234, [])] : List (Instr × List Byte)).map some := by decide +kernel

theorem test_decode_row_8 : ((List.range 16).map (fun k => (decode [BitVec.ofNat 8 (0x80 + k), 0x34, 0x12]).toOption)) =
  ([(.nopImm80 0x34, [0x12]), (.staIzx 0x34, [0x12]), (.nopImm82 0x34, [0x12]), (.saxIzx 0x34, [0x12]),
     (.styZp 0x34, [0x12]), (.staZp 0x34, [0x12]), (.stxZp 0x34, [0x12]), (.saxZp 0x34, [0x12]),
     (.dey, [0x34, 0x12]), (.nopImm89 0x34, [0x12]), (.txa, [0x34, 0x12]), (.aneImm 0x34, [0x12]),
     (.styAbs 0x1234, []), (.staAbs 0x1234, []), (.stxAbs 0x1234, []), (.saxAbs 0x1234, [])] : List (Instr × List Byte)).map some := by decide +kernel

theorem test_decode_row_9 : ((List.range 16).map (fun k => (decode [BitVec.ofNat 8 (0x90 + k), 0x34, 0x12]).toOption)) =
  ([(.bccRel 0x34, [0x12]), (.staIzy 0x34, [0x12]), (.jam92, [0x34, 0x12]), (.shaIzy 0x34, [0x12]),
     (.styZpx 0x34, [0x12]), (.staZpx 0x34, [0x12]), (.stxZpy 0x34, [0x12]), (.saxZpy 0x34, [0x12]),
     (.tya, [0x34, 0x12]), (.staAby 0x1234, []), (.txs, [0x34, 0x12]), (.tasAby 0x1234, []), (.shyAbx 0x1234, []),
     (.staAbx 0x1234, []), (.shxAby 0x1234, []), (.shaAby 0x1234, [])] : List (Instr × List Byte)).map some := by decide +kernel

theorem test_decode_row_A : ((List.range 16).map (fun k => (decode [BitVec.ofNat 8 (0xA0 + k), 0x34, 0x12]).toOption)) =
  ([(.ldyImm 0x34, [0x12]), (.ldaIzx 0x34, [0x12]), (.ldxImm 0x34, [0x12]), (.laxIzx 0x34, [0x12]),
     (.ldyZp 0x34, [0x12]), (.ldaZp 0x34, [0x12]), (.ldxZp 0x34, [0x12]), (.laxZp 0x34, [0x12]),
     (.tay, [0x34, 0x12]), (.ldaImm 0x34, [0x12]), (.tax, [0x34, 0x12]), (.lxaImm 0x34, [0x12]),
     (.ldyAbs 0x1234, []), (.ldaAbs 0x1234, []), (.ldxAbs 0x1234, []), (.laxAbs 0x1234, [])] : List (Instr × List Byte)).map some := by decide +kernel

theorem test_decode_row_B : ((List.range 16).map (fun k => (decode [BitVec.ofNat 8 (0xB0 + k), 0x34, 0x12]).toOption)) =
  ([(.bcsRel 0x34, [0x12]), (.ldaIzy 0x34, [0x12]), (.jamB2, [0x34, 0x12]), (.laxIzy 0x34, [0x12]),
     (.ldyZpx 0x34, [0x12]), (.ldaZpx 0x34, [0x12]), (.ldxZpy 0x34, [0x12]), (.laxZpy 0x34, [0x12]),
     (.clv, [0x34, 0x12]), (.ldaAby 0x1234, []), (.tsx, [0x34, 0x12]), (.lasAby 0x1234, []), (.ldyAbx 0x1234, []),
     (.ldaAbx 0x1234, []), (.ldxAby 0x1234, []), (.laxAby 0x1234, [])] : List (Instr × List Byte)).map some := by decide +kernel

theorem test_decode_row_C : ((List.range 16).map (fun k => (decode [BitVec.ofNat 8 (0xC0 + k), 0x34, 0x12]).toOption)) =
  ([(.cpyImm 0x34, [0x12]), (.cmpIzx 0x34, [0x12]), (.nopImmC2 0x34, [0x12]), (.dcpIzx 0x34, [0x12]),
     (.cpyZp 0x34, [0x12]), (.cmpZp 0x34, [0x12]), (.decZp 0x34, [0x12]), (.dcpZp 0x34, [0x12]),
     (.iny, [0x34, 0x12]), (.cmpImm 0x34, [0x12]), (.dex, [0x34, 0x12]), (.sbxImm 0x34, [0x12]),
     (.cpyAbs 0x1234, []), (.cmpAbs 0x1234, []), (.decAbs 0x1234, []), (.dcpAbs 0x1234, [])] : List (Instr × List Byte)).map some := by decide +kernel

theorem test_decode_row_D : ((List.range 16).map (fun k => (decode [BitVec.ofNat 8 (0xD0 + k), 0x34, 0x12]).toOption)) =
  ([(.bneRel 0x34, [0x12]), (.cmpIzy 0x34, [0x12]), (.jamD2, [0x34, 0x12]), (.dcpIzy 0x34, [0x12]),
     (.nopZpxD4 0x34, [0x12]), (.cmpZpx 0x34, [0x12]), (.decZpx 0x34, [0x12]), (.dcpZpx 0x34, [0x12]),
     (.cld, [0x34, 0x12]), (.cmpAby 0x1234, []), (.nopImpDA, [0x34, 0x12]), (.dcpAby 0x1234, []),
     (.nopAbxDC 0x1234, []), (.cmpAbx 0x1234, []), (.decAbx 0x1234, []), (.dcpAbx 0x1234, [])] : List (Instr × List Byte)).map some := by decide +kernel

theorem test_decode_row_E : ((List.range 16).map (fun k => (decode [BitVec.ofNat 8 (0xE0 + k), 0x34, 0x12]).toOption)) =
  ([(.cpxImm 0x34, [0x12]), (.sbcIzx 0x34, [0x12]), (.nopImmE2 0x34, [0x12]), (.iscIzx 0x34, [0x12]),
     (.cpxZp 0x34, [0x12]), (.sbcZp 0x34, [0x12]), (.incZp 0x34, [0x12]), (.iscZp 0x34, [0x12]),
     (.inx, [0x34, 0x12]), (.sbcImm 0x34, [0x12]), (.nopImpEA, [0x34, 0x12]), (.usbcImm 0x34, [0x12]),
     (.cpxAbs 0x1234, []), (.sbcAbs 0x1234, []), (.incAbs 0x1234, []), (.iscAbs 0x1234, [])] : List (Instr × List Byte)).map some := by decide +kernel

theorem test_decode_row_F : ((List.range 16).map (fun k => (decode [BitVec.ofNat 8 (0xF0 + k), 0x34, 0x12]).toOption)) =
  ([(.beqRel 0x34, [0x12]), (.sbcIzy 0x34, [0x12]), (.jamF2, [0x34, 0x12]), (.iscIzy 0x34, [0x12]),
     (.nopZpxF4 0x34, [0x12]), (.sbcZpx 0x34, [0x12]), (.incZpx 0x34, [0x12]), (.iscZpx 0x34, [0x12]),
     (.sed, [0x34, 0x12]), (.sbcAby 0x1234, []), (.nopImpFA, [0x34, 0x12]), (.iscAby 0x1234, []),
     (.nopAbxFC 0x1234, []), (.sbcAbx 0x1234, []), (.incAbx 0x1234, []), (.iscAbx 0x1234, [])] : List (Instr × List Byte)).map some := by decide +kernel

/-! The micro-op ROM, by the words of spec/30_encoding.md rule R144 (packed by rule R141). -/

theorem test_rom_0_53 : ((rom.drop 0).take 54).map MicroOp.word =
    [0x0E01, 0x0F65, 0x0E41, 0x0F65, 0x0440, 0x4E01, 0x0F65, 0x0442, 0x4E80, 0x0F65, 0x0440, 0x4E00, 0x4E81, 0x4E80,
     0x0F65, 0x0440, 0x4E04, 0x4E01, 0x0F65, 0x0440, 0x4E06, 0x4E80, 0x0F65, 0x0440, 0x4E04, 0x4E00, 0x4E81, 0x4E80,
     0x0F65, 0x0440, 0x4E05, 0x4E01, 0x0F65, 0x0440, 0x4E07, 0x4E80, 0x0F65, 0x0640, 0x0740, 0x6E01, 0x0F65, 0x0640,
     0x0742, 0x6E80, 0x0F65, 0x0640, 0x0740, 0x6E00, 0x6E81, 0x6E80, 0x0F65, 0x0640, 0x0749, 0x6E00] := by decide +kernel

theorem test_rom_54_107 : ((rom.drop 54).take 54).map MicroOp.word =
    [0x8E01, 0x0F65, 0x0640, 0x074B, 0x6E02, 0x8E80, 0x0F65, 0x0640, 0x074B, 0x6E00, 0x8E00, 0x8E81, 0x8E80, 0x0F65,
     0x0640, 0x074B, 0x6E03, 0x8E80, 0x0F65, 0x0640, 0x074A, 0x6E00, 0x8E01, 0x0F65, 0x0640, 0x074C, 0x6E02, 0x8E80,
     0x0F65, 0x0640, 0x074C, 0x6E00, 0x8E00, 0x8E81, 0x8E80, 0x0F65, 0x0640, 0x074C, 0x6E03, 0x8E80, 0x0F65, 0x0440,
     0x4E04, 0x4608, 0x4700, 0x6E01, 0x0F65, 0x0440, 0x4E04, 0x4608, 0x4702, 0x6E80, 0x0F65, 0x0440] := by decide +kernel

theorem test_rom_108_161 : ((rom.drop 108).take 54).map MicroOp.word =
    [0x4E04, 0x4608, 0x4700, 0x6E00, 0x6E81, 0x6E80, 0x0F65, 0x0440, 0x4608, 0x470A, 0x6E00, 0x8E01, 0x0F65, 0x0440,
     0x4608, 0x470C, 0x6E02, 0x8E80, 0x0F65, 0x0440, 0x4608, 0x470C, 0x6E00, 0x8E00, 0x8E81, 0x8E80, 0x0F65, 0x0440,
     0x4608, 0x470C, 0x6E03, 0x8E80, 0x0F65, 0x0640, 0x070D, 0x0F65, 0x0640, 0x0740, 0x680E, 0x690F, 0x0F65, 0x0640,
     0x2E00, 0x219E, 0x209E, 0x070D, 0x0F65, 0x0E00, 0x2E1F, 0x201F, 0x2100, 0x0E40, 0x0F65, 0x0E00] := by decide +kernel

theorem test_rom_162_215 : ((rom.drop 162).take 54).map MicroOp.word =
    [0x2E1F, 0x3020, 0x201F, 0x2100, 0x0F65, 0x0E1C, 0x2E9E, 0x0F65, 0x0E1D, 0x2E9E, 0x0F65, 0x0E00, 0x2E1F, 0x2E01,
     0x0F65, 0x0E00, 0x2E1F, 0x2E00, 0x0F68, 0x0E00, 0x0F66, 0x0E00, 0x0F67, 0x0E21, 0x219E, 0x20A2, 0x2EA3, 0xC610,
     0xC70D, 0x0F69, 0x0E51, 0x0E52, 0x0E53, 0x0E54, 0x0E55, 0x0E56, 0x0E57, 0x0E58, 0x0E19, 0x0E1A, 0x0F65, 0x0E1B,
     0x0F65, 0x0E00, 0x0E2A, 0x0F65, 0x0E00, 0x0E00, 0x2E1E, 0x2E1E, 0x2E24, 0xC610, 0xC70D, 0x0F69] := by decide +kernel

theorem test_rom_size : rom.length = 216 := by decide +kernel

/-! One step from the states of spec/95_test_vectors.md, by section: registers and bus. -/

/-- Section 1.1: LDA #$42. -/
theorem test_ldaImm :
    let t := result (.ldaImm 0x42) (start 0x0400 0x00 0x00 0x00 0xFD 0x30 [])
    regs t = ([0x42, 0x00, 0x00, 0xFD, 0x30], 0x0402) ∧
    bus t = [rd 0x0400, rd 0x0401] := by
  decide +kernel

/-- Section 1.1: LDA $1234,X. -/
theorem test_ldaAbx :
    let t := result (.ldaAbx 0x1234) (start 0x0400 0x00 0x01 0x00 0xFD 0x30 [(0x1235, 0x77)])
    regs t = ([0x77, 0x01, 0x00, 0xFD, 0x30], 0x0403) ∧
    bus t = [rd 0x0400, rd 0x0401, rd 0x0402, rd 0x1235] := by
  decide +kernel

/-- Section 1.2: ADC #$46. -/
theorem test_adcImm :
    let t := result (.adcImm 0x46) (start 0x0400 0x58 0x00 0x00 0xFD 0x39 [])
    regs t = ([0x05, 0x00, 0x00, 0xFD, 0xF9], 0x0402) ∧
    bus t = [rd 0x0400, rd 0x0401] := by
  decide +kernel

/-- Section 1.2: SBC #$02. -/
theorem test_sbcImm :
    let t := result (.sbcImm 0x02) (start 0x0400 0x32 0x00 0x00 0xFD 0x38 [])
    regs t = ([0x29, 0x00, 0x00, 0xFD, 0x39], 0x0402) ∧
    bus t = [rd 0x0400, rd 0x0401] := by
  decide +kernel

/-- Section 1.3: BNE $80 (not taken, target in another page). -/
theorem test_bneRel :
    let t := result (.bneRel 0x80) (start 0x0400 0x00 0x00 0x00 0xFD 0x32 [])
    regs t = ([0x00, 0x00, 0x00, 0xFD, 0x32], 0x0402) ∧
    bus t = [rd 0x0400, rd 0x0401] := by
  decide +kernel

/-- Section 1.3: BNE -$10 (taken, page cross backward). -/
theorem test_bneRel_2 :
    let t := result (.bneRel 0xF0) (start 0x0400 0x00 0x00 0x00 0xFD 0x30 [])
    regs t = ([0x00, 0x00, 0x00, 0xFD, 0x30], 0x03F2) ∧
    bus t = [rd 0x0400, rd 0x0401, rd 0x0402, rd 0x04F2] := by
  decide +kernel

/-- Section 2.1: LDA #$80. -/
theorem test_ldaImm_2 :
    let t := result (.ldaImm 0x80) (start 0x0400 0x00 0x00 0x00 0xFD 0x30 [])
    regs t = ([0x80, 0x00, 0x00, 0xFD, 0xB0], 0x0402) ∧
    bus t = [rd 0x0400, rd 0x0401] := by
  decide +kernel

/-- Section 2.1: LDA $10. -/
theorem test_ldaZp :
    let t := result (.ldaZp 0x10) (start 0x0400 0x00 0x00 0x00 0xFD 0x30 [(0x0010, 0x7F)])
    regs t = ([0x7F, 0x00, 0x00, 0xFD, 0x30], 0x0402) ∧
    bus t = [rd 0x0400, rd 0x0401, rd 0x0010] := by
  decide +kernel

/-- Section 2.1: LDA $F0,X (wraps in page 0). -/
theorem test_ldaZpx :
    let t := result (.ldaZpx 0xF0) (start 0x0400 0x00 0x20 0x00 0xFD 0x30 [(0x0010, 0x33), (0x0110, 0x99)])
    regs t = ([0x33, 0x20, 0x00, 0xFD, 0x30], 0x0402) ∧
    bus t = [rd 0x0400, rd 0x0401, rd 0x00F0, rd 0x0010] := by
  decide +kernel

/-- Section 2.1: LDA $1234. -/
theorem test_ldaAbs :
    let t := result (.ldaAbs 0x1234) (start 0x0400 0x00 0x00 0x00 0xFD 0x30 [(0x1234, 0xFE)])
    regs t = ([0xFE, 0x00, 0x00, 0xFD, 0xB0], 0x0403) ∧
    bus t = [rd 0x0400, rd 0x0401, rd 0x0402, rd 0x1234] := by
  decide +kernel

/-- Section 2.1: LDA $FFFF,X (wraps to 0000: reads DDR). -/
theorem test_ldaAbx_2 :
    let t := result (.ldaAbx 0xFFFF) (start 0x0400 0x00 0x01 0x00 0xFD 0x30 [])
    regs t = ([0x07, 0x01, 0x00, 0xFD, 0x30], 0x0403) ∧
    bus t = [rd 0x0400, rd 0x0401, rd 0x0402, rd 0xFF00, rd 0x0000] := by
  decide +kernel

/-- Section 2.1: LDA $12F0,Y. -/
theorem test_ldaAby :
    let t := result (.ldaAby 0x12F0) (start 0x0400 0x00 0x00 0x20 0xFD 0x30 [(0x1310, 0x44)])
    regs t = ([0x44, 0x00, 0x20, 0xFD, 0x30], 0x0403) ∧
    bus t = [rd 0x0400, rd 0x0401, rd 0x0402, rd 0x1210, rd 0x1310] := by
  decide +kernel

/-- Section 2.1: LDA ($F0,X) (pointer bytes at 00FF and 0000, not 0100: the high byte is DDR = 07). -/
theorem test_ldaIzx :
    let t := result (.ldaIzx 0xF0) (start 0x0400 0x00 0x0F 0x00 0xFD 0x30 [(0x00FF, 0x34), (0x0100, 0xEE), (0x0734, 0x21)])
    regs t = ([0x21, 0x0F, 0x00, 0xFD, 0x30], 0x0402) ∧
    bus t = [rd 0x0400, rd 0x0401, rd 0x00F0, rd 0x00FF, rd 0x0000, rd 0x0734] := by
  decide +kernel

/-- Section 2.1: LDA ($20),Y (page cross). -/
theorem test_ldaIzy :
    let t := result (.ldaIzy 0x20) (start 0x0400 0x00 0x00 0x40 0xFD 0x30 [(0x0020, 0xF0), (0x0021, 0x12), (0x1230, 0x01), (0x1330, 0x67)])
    regs t = ([0x67, 0x00, 0x40, 0xFD, 0x30], 0x0402) ∧
    bus t = [rd 0x0400, rd 0x0401, rd 0x0020, rd 0x0021, rd 0x1230, rd 0x1330] := by
  decide +kernel

/-- Section 2.1: LDX $12FF,Y. -/
theorem test_ldxAby :
    let t := result (.ldxAby 0x12FF) (start 0x0400 0x00 0x00 0x01 0xFD 0x30 [(0x1300, 0x80)])
    regs t = ([0x00, 0x80, 0x01, 0xFD, 0xB0], 0x0403) ∧
    bus t = [rd 0x0400, rd 0x0401, rd 0x0402, rd 0x1200, rd 0x1300] := by
  decide +kernel

/-- Section 2.1: LDY $1234,X. -/
theorem test_ldyAbx :
    let t := result (.ldyAbx 0x1234) (start 0x0400 0x00 0x02 0x00 0xFD 0x30 [(0x1236, 0x00)])
    regs t = ([0x00, 0x02, 0x00, 0xFD, 0x32], 0x0403) ∧
    bus t = [rd 0x0400, rd 0x0401, rd 0x0402, rd 0x1236] := by
  decide +kernel

/-- Section 2.1: STA $10. -/
theorem test_staZp :
    let t := result (.staZp 0x10) (start 0x0400 0x5A 0x00 0x00 0xFD 0x30 [])
    regs t = ([0x5A, 0x00, 0x00, 0xFD, 0x30], 0x0402) ∧
    bus t = [rd 0x0400, rd 0x0401, wr 0x0010 0x5A] := by
  decide +kernel

/-- Section 2.1: STA $12F0,X (always 5). -/
theorem test_staAbx :
    let t := result (.staAbx 0x12F0) (start 0x0400 0xA5 0x20 0x00 0xFD 0x30 [])
    regs t = ([0xA5, 0x20, 0x00, 0xFD, 0x30], 0x0403) ∧
    bus t = [rd 0x0400, rd 0x0401, rd 0x0402, rd 0x1210, wr 0x1310 0xA5] := by
  decide +kernel

/-- Section 2.1: STA ($20),Y (always 6). -/
theorem test_staIzy :
    let t := result (.staIzy 0x20) (start 0x0400 0x11 0x00 0x40 0xFD 0x30 [(0x0020, 0xF0), (0x0021, 0x12)])
    regs t = ([0x11, 0x00, 0x40, 0xFD, 0x30], 0x0402) ∧
    bus t = [rd 0x0400, rd 0x0401, rd 0x0020, rd 0x0021, rd 0x1230, wr 0x1330 0x11] := by
  decide +kernel

/-- Section 2.1: STA ($F0,X) (pointer wraps to 0002). -/
theorem test_staIzx :
    let t := result (.staIzx 0xF0) (start 0x0400 0x22 0x12 0x00 0xFD 0x30 [(0x0002, 0x00), (0x0003, 0x20)])
    regs t = ([0x22, 0x12, 0x00, 0xFD, 0x30], 0x0402) ∧
    bus t = [rd 0x0400, rd 0x0401, rd 0x00F0, rd 0x0002, rd 0x0003, wr 0x2000 0x22] := by
  decide +kernel

/-- Section 2.1: STX $F0,Y (wraps). -/
theorem test_stxZpy :
    let t := result (.stxZpy 0xF0) (start 0x0400 0x00 0x77 0x20 0xFD 0x30 [])
    regs t = ([0x00, 0x77, 0x20, 0xFD, 0x30], 0x0402) ∧
    bus t = [rd 0x0400, rd 0x0401, rd 0x00F0, wr 0x0010 0x77] := by
  decide +kernel

/-- Section 2.1: STY $10,X. -/
theorem test_styZpx :
    let t := result (.styZpx 0x10) (start 0x0400 0x00 0x05 0x33 0xFD 0x30 [])
    regs t = ([0x00, 0x05, 0x33, 0xFD, 0x30], 0x0402) ∧
    bus t = [rd 0x0400, rd 0x0401, rd 0x0010, wr 0x0015 0x33] := by
  decide +kernel

/-- Section 2.1: TAX. -/
theorem test_tax :
    let t := result (.tax) (start 0x0400 0x80 0x00 0x00 0xFD 0x30 [])
    regs t = ([0x80, 0x80, 0x00, 0xFD, 0xB0], 0x0401) ∧
    bus t = [rd 0x0400, rd 0x0401] := by
  decide +kernel

/-- Section 2.1: TAY. -/
theorem test_tay :
    let t := result (.tay) (start 0x0400 0x00 0x00 0x03 0xFD 0x30 [])
    regs t = ([0x00, 0x00, 0x00, 0xFD, 0x32], 0x0401) ∧
    bus t = [rd 0x0400, rd 0x0401] := by
  decide +kernel

/-- Section 2.1: TXA. -/
theorem test_txa :
    let t := result (.txa) (start 0x0400 0x80 0x7F 0x00 0xFD 0x30 [])
    regs t = ([0x7F, 0x7F, 0x00, 0xFD, 0x30], 0x0401) ∧
    bus t = [rd 0x0400, rd 0x0401] := by
  decide +kernel

/-- Section 2.1: TYA. -/
theorem test_tya :
    let t := result (.tya) (start 0x0400 0x00 0x00 0x90 0xFD 0x30 [])
    regs t = ([0x90, 0x00, 0x90, 0xFD, 0xB0], 0x0401) ∧
    bus t = [rd 0x0400, rd 0x0401] := by
  decide +kernel

/-- Section 2.1: TSX. -/
theorem test_tsx :
    let t := result (.tsx) (start 0x0400 0x00 0x00 0x00 0xFD 0x30 [])
    regs t = ([0x00, 0xFD, 0x00, 0xFD, 0xB0], 0x0401) ∧
    bus t = [rd 0x0400, rd 0x0401] := by
  decide +kernel

/-- Section 2.1: TXS (no flags). -/
theorem test_txs :
    let t := result (.txs) (start 0x0400 0x00 0x00 0x00 0xFD 0xB0 [])
    regs t = ([0x00, 0x00, 0x00, 0x00, 0xB0], 0x0401) ∧
    bus t = [rd 0x0400, rd 0x0401] := by
  decide +kernel

/-- Section 2.2: ADC #$50. -/
theorem test_adcImm_2 :
    let t := result (.adcImm 0x50) (start 0x0400 0x50 0x00 0x00 0xFD 0x30 [])
    regs t = ([0xA0, 0x00, 0x00, 0xFD, 0xF0], 0x0402) ∧
    bus t = [rd 0x0400, rd 0x0401] := by
  decide +kernel

/-- Section 2.2: ADC $10. -/
theorem test_adcZp :
    let t := result (.adcZp 0x10) (start 0x0400 0x01 0x00 0x00 0xFD 0x30 [(0x0010, 0x02)])
    regs t = ([0x03, 0x00, 0x00, 0xFD, 0x30], 0x0402) ∧
    bus t = [rd 0x0400, rd 0x0401, rd 0x0010] := by
  decide +kernel

/-- Section 2.2: ADC $12F0,X. -/
theorem test_adcAbx :
    let t := result (.adcAbx 0x12F0) (start 0x0400 0x01 0x10 0x00 0xFD 0x30 [(0x1300, 0x0F)])
    regs t = ([0x10, 0x10, 0x00, 0xFD, 0x30], 0x0403) ∧
    bus t = [rd 0x0400, rd 0x0401, rd 0x0402, rd 0x1200, rd 0x1300] := by
  decide +kernel

/-- Section 2.2: SBC #$01 (C=0: borrow). -/
theorem test_sbcImm_2 :
    let t := result (.sbcImm 0x01) (start 0x0400 0x02 0x00 0x00 0xFD 0x30 [])
    regs t = ([0x00, 0x00, 0x00, 0xFD, 0x33], 0x0402) ∧
    bus t = [rd 0x0400, rd 0x0401] := by
  decide +kernel

/-- Section 2.2: AND #$0F. -/
theorem test_andImm :
    let t := result (.andImm 0x0F) (start 0x0400 0xF0 0x00 0x00 0xFD 0x30 [])
    regs t = ([0x00, 0x00, 0x00, 0xFD, 0x32], 0x0402) ∧
    bus t = [rd 0x0400, rd 0x0401] := by
  decide +kernel

/-- Section 2.2: ORA #$0F. -/
theorem test_oraImm :
    let t := result (.oraImm 0x0F) (start 0x0400 0xF0 0x00 0x00 0xFD 0x30 [])
    regs t = ([0xFF, 0x00, 0x00, 0xFD, 0xB0], 0x0402) ∧
    bus t = [rd 0x0400, rd 0x0401] := by
  decide +kernel

/-- Section 2.2: EOR #$FF. -/
theorem test_eorImm :
    let t := result (.eorImm 0xFF) (start 0x0400 0xFF 0x00 0x00 0xFD 0x30 [])
    regs t = ([0x00, 0x00, 0x00, 0xFD, 0x32], 0x0402) ∧
    bus t = [rd 0x0400, rd 0x0401] := by
  decide +kernel

/-- Section 2.2: ORA ($10,X). -/
theorem test_oraIzx :
    let t := result (.oraIzx 0x10) (start 0x0400 0x01 0x02 0x00 0xFD 0x30 [(0x0012, 0x00), (0x0013, 0x30), (0x3000, 0x80)])
    regs t = ([0x81, 0x02, 0x00, 0xFD, 0xB0], 0x0402) ∧
    bus t = [rd 0x0400, rd 0x0401, rd 0x0010, rd 0x0012, rd 0x0013, rd 0x3000] := by
  decide +kernel

/-- Section 2.2: CMP #$41 (less). -/
theorem test_cmpImm :
    let t := result (.cmpImm 0x41) (start 0x0400 0x40 0x00 0x00 0xFD 0x30 [])
    regs t = ([0x40, 0x00, 0x00, 0xFD, 0xB0], 0x0402) ∧
    bus t = [rd 0x0400, rd 0x0401] := by
  decide +kernel

/-- Section 2.2: CPX #$10. -/
theorem test_cpxImm :
    let t := result (.cpxImm 0x10) (start 0x0400 0x00 0x10 0x00 0xFD 0x30 [])
    regs t = ([0x00, 0x10, 0x00, 0xFD, 0x33], 0x0402) ∧
    bus t = [rd 0x0400, rd 0x0401] := by
  decide +kernel

/-- Section 2.2: CPY $10. -/
theorem test_cpyZp :
    let t := result (.cpyZp 0x10) (start 0x0400 0x00 0x00 0x02 0xFD 0x30 [(0x0010, 0x01)])
    regs t = ([0x00, 0x00, 0x02, 0xFD, 0x31], 0x0402) ∧
    bus t = [rd 0x0400, rd 0x0401, rd 0x0010] := by
  decide +kernel

/-- Section 2.2: BIT $10. -/
theorem test_bitZp :
    let t := result (.bitZp 0x10) (start 0x0400 0x0F 0x00 0x00 0xFD 0x30 [(0x0010, 0xC0)])
    regs t = ([0x0F, 0x00, 0x00, 0xFD, 0xF2], 0x0402) ∧
    bus t = [rd 0x0400, rd 0x0401, rd 0x0010] := by
  decide +kernel

/-- Section 2.2: BIT $1234. -/
theorem test_bitAbs :
    let t := result (.bitAbs 0x1234) (start 0x0400 0xFF 0x00 0x00 0xFD 0xF0 [(0x1234, 0x01)])
    regs t = ([0xFF, 0x00, 0x00, 0xFD, 0x30], 0x0403) ∧
    bus t = [rd 0x0400, rd 0x0401, rd 0x0402, rd 0x1234] := by
  decide +kernel

/-- Section 2.3: ASL A. -/
theorem test_aslAcc :
    let t := result (.aslAcc) (start 0x0400 0x81 0x00 0x00 0xFD 0x30 [])
    regs t = ([0x02, 0x00, 0x00, 0xFD, 0x31], 0x0401) ∧
    bus t = [rd 0x0400, rd 0x0401] := by
  decide +kernel

/-- Section 2.3: ASL $10. -/
theorem test_aslZp :
    let t := result (.aslZp 0x10) (start 0x0400 0x00 0x00 0x00 0xFD 0x30 [(0x0010, 0x40)])
    regs t = ([0x00, 0x00, 0x00, 0xFD, 0xB0], 0x0402) ∧
    bus t = [rd 0x0400, rd 0x0401, rd 0x0010, wr 0x0010 0x40, wr 0x0010 0x80] := by
  decide +kernel

/-- Section 2.3: LSR A. -/
theorem test_lsrAcc :
    let t := result (.lsrAcc) (start 0x0400 0x01 0x00 0x00 0xFD 0x30 [])
    regs t = ([0x00, 0x00, 0x00, 0xFD, 0x33], 0x0401) ∧
    bus t = [rd 0x0400, rd 0x0401] := by
  decide +kernel

/-- Section 2.3: LSR $12FF,X (always 7). -/
theorem test_lsrAbx :
    let t := result (.lsrAbx 0x12FF) (start 0x0400 0x00 0x01 0x00 0xFD 0x30 [(0x1300, 0x03)])
    regs t = ([0x00, 0x01, 0x00, 0xFD, 0x31], 0x0403) ∧
    bus t = [rd 0x0400, rd 0x0401, rd 0x0402, rd 0x1200, rd 0x1300, wr 0x1300 0x03, wr 0x1300 0x01] := by
  decide +kernel

/-- Section 2.3: ROL A. -/
theorem test_rolAcc :
    let t := result (.rolAcc) (start 0x0400 0x80 0x00 0x00 0xFD 0x31 [])
    regs t = ([0x01, 0x00, 0x00, 0xFD, 0x31], 0x0401) ∧
    bus t = [rd 0x0400, rd 0x0401] := by
  decide +kernel

/-- Section 2.3: ROL $10,X. -/
theorem test_rolZpx :
    let t := result (.rolZpx 0x10) (start 0x0400 0x00 0x01 0x00 0xFD 0x30 [(0x0011, 0xC0)])
    regs t = ([0x00, 0x01, 0x00, 0xFD, 0xB1], 0x0402) ∧
    bus t = [rd 0x0400, rd 0x0401, rd 0x0010, rd 0x0011, wr 0x0011 0xC0, wr 0x0011 0x80] := by
  decide +kernel

/-- Section 2.3: ROR A. -/
theorem test_rorAcc :
    let t := result (.rorAcc) (start 0x0400 0x01 0x00 0x00 0xFD 0x31 [])
    regs t = ([0x80, 0x00, 0x00, 0xFD, 0xB1], 0x0401) ∧
    bus t = [rd 0x0400, rd 0x0401] := by
  decide +kernel

/-- Section 2.3: ROR $1234. -/
theorem test_rorAbs :
    let t := result (.rorAbs 0x1234) (start 0x0400 0x00 0x00 0x00 0xFD 0x30 [(0x1234, 0x01)])
    regs t = ([0x00, 0x00, 0x00, 0xFD, 0x33], 0x0403) ∧
    bus t = [rd 0x0400, rd 0x0401, rd 0x0402, rd 0x1234, wr 0x1234 0x01, wr 0x1234 0x00] := by
  decide +kernel

/-- Section 2.3: INC $10. -/
theorem test_incZp :
    let t := result (.incZp 0x10) (start 0x0400 0x00 0x00 0x00 0xFD 0x30 [(0x0010, 0xFF)])
    regs t = ([0x00, 0x00, 0x00, 0xFD, 0x32], 0x0402) ∧
    bus t = [rd 0x0400, rd 0x0401, rd 0x0010, wr 0x0010 0xFF, wr 0x0010 0x00] := by
  decide +kernel

/-- Section 2.3: INC $1234,X. -/
theorem test_incAbx :
    let t := result (.incAbx 0x1234) (start 0x0400 0x00 0x01 0x00 0xFD 0x30 [(0x1235, 0x7F)])
    regs t = ([0x00, 0x01, 0x00, 0xFD, 0xB0], 0x0403) ∧
    bus t = [rd 0x0400, rd 0x0401, rd 0x0402, rd 0x1235, rd 0x1235, wr 0x1235 0x7F, wr 0x1235 0x80] := by
  decide +kernel

/-- Section 2.3: DEC $10. -/
theorem test_decZp :
    let t := result (.decZp 0x10) (start 0x0400 0x00 0x00 0x00 0xFD 0x30 [(0x0010, 0x00)])
    regs t = ([0x00, 0x00, 0x00, 0xFD, 0xB0], 0x0402) ∧
    bus t = [rd 0x0400, rd 0x0401, rd 0x0010, wr 0x0010 0x00, wr 0x0010 0xFF] := by
  decide +kernel

/-- Section 2.3: DEC $1234. -/
theorem test_decAbs :
    let t := result (.decAbs 0x1234) (start 0x0400 0x00 0x00 0x00 0xFD 0x30 [(0x1234, 0x01)])
    regs t = ([0x00, 0x00, 0x00, 0xFD, 0x32], 0x0403) ∧
    bus t = [rd 0x0400, rd 0x0401, rd 0x0402, rd 0x1234, wr 0x1234 0x01, wr 0x1234 0x00] := by
  decide +kernel

/-- Section 2.3: INX. -/
theorem test_inx :
    let t := result (.inx) (start 0x0400 0x00 0xFF 0x00 0xFD 0x30 [])
    regs t = ([0x00, 0x00, 0x00, 0xFD, 0x32], 0x0401) ∧
    bus t = [rd 0x0400, rd 0x0401] := by
  decide +kernel

/-- Section 2.3: INY. -/
theorem test_iny :
    let t := result (.iny) (start 0x0400 0x00 0x00 0x7F 0xFD 0x30 [])
    regs t = ([0x00, 0x00, 0x80, 0xFD, 0xB0], 0x0401) ∧
    bus t = [rd 0x0400, rd 0x0401] := by
  decide +kernel

/-- Section 2.3: DEX. -/
theorem test_dex :
    let t := result (.dex) (start 0x0400 0x00 0x00 0x00 0xFD 0x30 [])
    regs t = ([0x00, 0xFF, 0x00, 0xFD, 0xB0], 0x0401) ∧
    bus t = [rd 0x0400, rd 0x0401] := by
  decide +kernel

/-- Section 2.3: DEY. -/
theorem test_dey :
    let t := result (.dey) (start 0x0400 0x00 0x00 0x01 0xFD 0x30 [])
    regs t = ([0x00, 0x00, 0x00, 0xFD, 0x32], 0x0401) ∧
    bus t = [rd 0x0400, rd 0x0401] := by
  decide +kernel

/-- Section 2.4: JMP $1234. -/
theorem test_jmpAbs :
    let t := result (.jmpAbs 0x1234) (start 0x0400 0x00 0x00 0x00 0xFD 0x30 [])
    regs t = ([0x00, 0x00, 0x00, 0xFD, 0x30], 0x1234) ∧
    bus t = [rd 0x0400, rd 0x0401, rd 0x0402] := by
  decide +kernel

/-- Section 2.4: JMP ($12FF) (pointer wraps in its page). -/
theorem test_jmpInd :
    let t := result (.jmpInd 0x12FF) (start 0x0400 0x00 0x00 0x00 0xFD 0x30 [(0x1200, 0x56), (0x12FF, 0x78), (0x1300, 0x99)])
    regs t = ([0x00, 0x00, 0x00, 0xFD, 0x30], 0x5678) ∧
    bus t = [rd 0x0400, rd 0x0401, rd 0x0402, rd 0x12FF, rd 0x1200] := by
  decide +kernel

/-- Section 2.4: JSR $1234 (S=00: wraps). -/
theorem test_jsrAbs :
    let t := result (.jsrAbs 0x1234) (start 0x0400 0x00 0x00 0x00 0x00 0x30 [])
    regs t = ([0x00, 0x00, 0x00, 0xFE, 0x30], 0x1234) ∧
    bus t = [rd 0x0400, rd 0x0401, rd 0x0100, wr 0x0100 0x04, wr 0x01FF 0x02, rd 0x0402] := by
  decide +kernel

/-- Section 2.4: RTS (S=FF: wraps). -/
theorem test_rts :
    let t := result (.rts) (start 0x0400 0x00 0x00 0x00 0xFF 0x30 [(0x0100, 0xFF), (0x0101, 0x12)])
    regs t = ([0x00, 0x00, 0x00, 0x01, 0x30], 0x1300) ∧
    bus t = [rd 0x0400, rd 0x0401, rd 0x01FF, rd 0x0100, rd 0x0101, rd 0x12FF] := by
  decide +kernel

/-- Section 2.4: RTI (pulled B, U bits ignored). -/
theorem test_rti :
    let t := result (.rti) (start 0x0400 0x00 0x00 0x00 0xFA 0xFF [(0x01FB, 0x00), (0x01FC, 0x00), (0x01FD, 0x80)])
    regs t = ([0x00, 0x00, 0x00, 0xFD, 0x30], 0x8000) ∧
    bus t = [rd 0x0400, rd 0x0401, rd 0x01FA, rd 0x01FB, rd 0x01FC, rd 0x01FD] := by
  decide +kernel

/-- Section 2.4: BRK. -/
theorem test_brk :
    let t := result (.brk) (start 0x0400 0x00 0x00 0x00 0xFD 0x30 [(0xFFFE, 0x00), (0xFFFF, 0x80)])
    regs t = ([0x00, 0x00, 0x00, 0xFA, 0x34], 0x8000) ∧
    bus t = [rd 0x0400, rd 0x0401, wr 0x01FD 0x04, wr 0x01FC 0x02, wr 0x01FB 0x30, rd 0xFFFE, rd 0xFFFF] := by
  decide +kernel

/-- Section 2.4: BPL +5 (N=0). -/
theorem test_bplRel :
    let t := result (.bplRel 0x05) (start 0x0400 0x00 0x00 0x00 0xFD 0x30 [])
    regs t = ([0x00, 0x00, 0x00, 0xFD, 0x30], 0x0407) ∧
    bus t = [rd 0x0400, rd 0x0401, rd 0x0402] := by
  decide +kernel

/-- Section 2.4: BMI +5 (N=1). -/
theorem test_bmiRel :
    let t := result (.bmiRel 0x05) (start 0x0400 0x00 0x00 0x00 0xFD 0xB0 [])
    regs t = ([0x00, 0x00, 0x00, 0xFD, 0xB0], 0x0407) ∧
    bus t = [rd 0x0400, rd 0x0401, rd 0x0402] := by
  decide +kernel

/-- Section 2.4: BVC +5 (V=0). -/
theorem test_bvcRel :
    let t := result (.bvcRel 0x05) (start 0x0400 0x00 0x00 0x00 0xFD 0x30 [])
    regs t = ([0x00, 0x00, 0x00, 0xFD, 0x30], 0x0407) ∧
    bus t = [rd 0x0400, rd 0x0401, rd 0x0402] := by
  decide +kernel

/-- Section 2.4: BVS +5 (V=1). -/
theorem test_bvsRel :
    let t := result (.bvsRel 0x05) (start 0x0400 0x00 0x00 0x00 0xFD 0x70 [])
    regs t = ([0x00, 0x00, 0x00, 0xFD, 0x70], 0x0407) ∧
    bus t = [rd 0x0400, rd 0x0401, rd 0x0402] := by
  decide +kernel

/-- Section 2.4: BCC +5 (C=0). -/
theorem test_bccRel :
    let t := result (.bccRel 0x05) (start 0x0400 0x00 0x00 0x00 0xFD 0x30 [])
    regs t = ([0x00, 0x00, 0x00, 0xFD, 0x30], 0x0407) ∧
    bus t = [rd 0x0400, rd 0x0401, rd 0x0402] := by
  decide +kernel

/-- Section 2.4: BCS +5 (C=1). -/
theorem test_bcsRel :
    let t := result (.bcsRel 0x05) (start 0x0400 0x00 0x00 0x00 0xFD 0x31 [])
    regs t = ([0x00, 0x00, 0x00, 0xFD, 0x31], 0x0407) ∧
    bus t = [rd 0x0400, rd 0x0401, rd 0x0402] := by
  decide +kernel

/-- Section 2.4: BEQ -128 (taken, cross). -/
theorem test_beqRel :
    let t := result (.beqRel 0x80) (start 0x0400 0x00 0x00 0x00 0xFD 0x32 [])
    regs t = ([0x00, 0x00, 0x00, 0xFD, 0x32], 0x0382) ∧
    bus t = [rd 0x0400, rd 0x0401, rd 0x0402, rd 0x0482] := by
  decide +kernel

/-- Section 2.4: BEQ +127 (taken). -/
theorem test_beqRel_2 :
    let t := result (.beqRel 0x7F) (start 0x0400 0x00 0x00 0x00 0xFD 0x32 [])
    regs t = ([0x00, 0x00, 0x00, 0xFD, 0x32], 0x0481) ∧
    bus t = [rd 0x0400, rd 0x0401, rd 0x0402] := by
  decide +kernel

/-- Section 2.5: PHA (S=00). -/
theorem test_pha :
    let t := result (.pha) (start 0x0400 0x5A 0x00 0x00 0x00 0x30 [])
    regs t = ([0x5A, 0x00, 0x00, 0xFF, 0x30], 0x0401) ∧
    bus t = [rd 0x0400, rd 0x0401, wr 0x0100 0x5A] := by
  decide +kernel

/-- Section 2.5: PHP (pushes B=1, U=1). -/
theorem test_php :
    let t := result (.php) (start 0x0400 0x00 0x00 0x00 0xFD 0xF3 [])
    regs t = ([0x00, 0x00, 0x00, 0xFC, 0xF3], 0x0401) ∧
    bus t = [rd 0x0400, rd 0x0401, wr 0x01FD 0xF3] := by
  decide +kernel

/-- Section 2.5: PLA (S=FF: reads 0100). -/
theorem test_pla :
    let t := result (.pla) (start 0x0400 0x00 0x00 0x00 0xFF 0x30 [(0x0100, 0x00)])
    regs t = ([0x00, 0x00, 0x00, 0x00, 0x32], 0x0401) ∧
    bus t = [rd 0x0400, rd 0x0401, rd 0x01FF, rd 0x0100] := by
  decide +kernel

/-- Section 2.5: PLP. -/
theorem test_plp :
    let t := result (.plp) (start 0x0400 0x00 0x00 0x00 0xFD 0x30 [(0x01FE, 0xC3)])
    regs t = ([0x00, 0x00, 0x00, 0xFE, 0x30], 0x0401) ∧
    bus t = [rd 0x0400, rd 0x0401, rd 0x01FD, rd 0x01FE] := by
  decide +kernel

/-- Section 2.5: CLC. -/
theorem test_clc :
    let t := result (.clc) (start 0x0400 0x00 0x00 0x00 0xFD 0xFF [])
    regs t = ([0x00, 0x00, 0x00, 0xFD, 0xFE], 0x0401) ∧
    bus t = [rd 0x0400, rd 0x0401] := by
  decide +kernel

/-- Section 2.5: SEC. -/
theorem test_sec :
    let t := result (.sec) (start 0x0400 0x00 0x00 0x00 0xFD 0x30 [])
    regs t = ([0x00, 0x00, 0x00, 0xFD, 0x31], 0x0401) ∧
    bus t = [rd 0x0400, rd 0x0401] := by
  decide +kernel

/-- Section 2.5: CLI. -/
theorem test_cli :
    let t := result (.cli) (start 0x0400 0x00 0x00 0x00 0xFD 0x34 [])
    regs t = ([0x00, 0x00, 0x00, 0xFD, 0x34], 0x0401) ∧
    bus t = [rd 0x0400, rd 0x0401] := by
  decide +kernel

/-- Section 2.5: SEI. -/
theorem test_sei :
    let t := result (.sei) (start 0x0400 0x00 0x00 0x00 0xFD 0x30 [])
    regs t = ([0x00, 0x00, 0x00, 0xFD, 0x30], 0x0401) ∧
    bus t = [rd 0x0400, rd 0x0401] := by
  decide +kernel

/-- Section 2.5: CLD. -/
theorem test_cld :
    let t := result (.cld) (start 0x0400 0x00 0x00 0x00 0xFD 0x38 [])
    regs t = ([0x00, 0x00, 0x00, 0xFD, 0x30], 0x0401) ∧
    bus t = [rd 0x0400, rd 0x0401] := by
  decide +kernel

/-- Section 2.5: SED. -/
theorem test_sed :
    let t := result (.sed) (start 0x0400 0x00 0x00 0x00 0xFD 0x30 [])
    regs t = ([0x00, 0x00, 0x00, 0xFD, 0x38], 0x0401) ∧
    bus t = [rd 0x0400, rd 0x0401] := by
  decide +kernel

/-- Section 2.5: CLV. -/
theorem test_clv :
    let t := result (.clv) (start 0x0400 0x00 0x00 0x00 0xFD 0x70 [])
    regs t = ([0x00, 0x00, 0x00, 0xFD, 0x30], 0x0401) ∧
    bus t = [rd 0x0400, rd 0x0401] := by
  decide +kernel

/-- Section 2.5: NOP. -/
theorem test_nopImpEA :
    let t := result (.nopImpEA) (start 0x0400 0x01 0x02 0x03 0xFD 0xF3 [])
    regs t = ([0x01, 0x02, 0x03, 0xFD, 0xF3], 0x0401) ∧
    bus t = [rd 0x0400, rd 0x0401] := by
  decide +kernel

/-- Section 2.6: SLO ($10),Y (8 cycles). -/
theorem test_sloIzy :
    let t := result (.sloIzy 0x10) (start 0x0400 0x01 0x00 0x01 0xFD 0x30 [(0x0010, 0xFF), (0x0011, 0x12), (0x1300, 0x40)])
    regs t = ([0x81, 0x00, 0x01, 0xFD, 0xB0], 0x0402) ∧
    bus t = [rd 0x0400, rd 0x0401, rd 0x0010, rd 0x0011, rd 0x1200, rd 0x1300, wr 0x1300 0x40, wr 0x1300 0x80] := by
  decide +kernel

/-- Section 2.6: RLA $10. -/
theorem test_rlaZp :
    let t := result (.rlaZp 0x10) (start 0x0400 0xFF 0x00 0x00 0xFD 0x31 [(0x0010, 0x40)])
    regs t = ([0x81, 0x00, 0x00, 0xFD, 0xB0], 0x0402) ∧
    bus t = [rd 0x0400, rd 0x0401, rd 0x0010, wr 0x0010 0x40, wr 0x0010 0x81] := by
  decide +kernel

/-- Section 2.6: SRE $10. -/
theorem test_sreZp :
    let t := result (.sreZp 0x10) (start 0x0400 0xFF 0x00 0x00 0xFD 0x30 [(0x0010, 0x03)])
    regs t = ([0xFE, 0x00, 0x00, 0xFD, 0xB1], 0x0402) ∧
    bus t = [rd 0x0400, rd 0x0401, rd 0x0010, wr 0x0010 0x03, wr 0x0010 0x01] := by
  decide +kernel

/-- Section 2.6: RRA $10. -/
theorem test_rraZp :
    let t := result (.rraZp 0x10) (start 0x0400 0x10 0x00 0x00 0xFD 0x31 [(0x0010, 0x02)])
    regs t = ([0x91, 0x00, 0x00, 0xFD, 0xB0], 0x0402) ∧
    bus t = [rd 0x0400, rd 0x0401, rd 0x0010, wr 0x0010 0x02, wr 0x0010 0x81] := by
  decide +kernel

/-- Section 2.6: RRA $10 (decimal). -/
theorem test_rraZp_2 :
    let t := result (.rraZp 0x10) (start 0x0400 0x19 0x00 0x00 0xFD 0x38 [(0x0010, 0x03)])
    regs t = ([0x21, 0x00, 0x00, 0xFD, 0x38], 0x0402) ∧
    bus t = [rd 0x0400, rd 0x0401, rd 0x0010, wr 0x0010 0x03, wr 0x0010 0x01] := by
  decide +kernel

/-- Section 2.6: SAX $10. -/
theorem test_saxZp :
    let t := result (.saxZp 0x10) (start 0x0400 0xF0 0x3C 0x00 0xFD 0xF3 [])
    regs t = ([0xF0, 0x3C, 0x00, 0xFD, 0xF3], 0x0402) ∧
    bus t = [rd 0x0400, rd 0x0401, wr 0x0010 0x30] := by
  decide +kernel

/-- Section 2.6: LAX $10. -/
theorem test_laxZp :
    let t := result (.laxZp 0x10) (start 0x0400 0x00 0x00 0x00 0xFD 0x30 [(0x0010, 0x80)])
    regs t = ([0x80, 0x80, 0x00, 0xFD, 0xB0], 0x0402) ∧
    bus t = [rd 0x0400, rd 0x0401, rd 0x0010] := by
  decide +kernel

/-- Section 2.6: LAX ($10),Y. -/
theorem test_laxIzy :
    let t := result (.laxIzy 0x10) (start 0x0400 0x00 0x00 0x01 0xFD 0x30 [(0x0010, 0xFF), (0x0011, 0x12), (0x1300, 0x00)])
    regs t = ([0x00, 0x00, 0x01, 0xFD, 0x32], 0x0402) ∧
    bus t = [rd 0x0400, rd 0x0401, rd 0x0010, rd 0x0011, rd 0x1200, rd 0x1300] := by
  decide +kernel

/-- Section 2.6: DCP $10. -/
theorem test_dcpZp :
    let t := result (.dcpZp 0x10) (start 0x0400 0x40 0x00 0x00 0xFD 0x30 [(0x0010, 0x41)])
    regs t = ([0x40, 0x00, 0x00, 0xFD, 0x33], 0x0402) ∧
    bus t = [rd 0x0400, rd 0x0401, rd 0x0010, wr 0x0010 0x41, wr 0x0010 0x40] := by
  decide +kernel

/-- Section 2.6: ISC $10. -/
theorem test_iscZp :
    let t := result (.iscZp 0x10) (start 0x0400 0x20 0x00 0x00 0xFD 0x31 [(0x0010, 0x0F)])
    regs t = ([0x10, 0x00, 0x00, 0xFD, 0x31], 0x0402) ∧
    bus t = [rd 0x0400, rd 0x0401, rd 0x0010, wr 0x0010 0x0F, wr 0x0010 0x10] := by
  decide +kernel

/-- Section 2.6: ANC #$80. -/
theorem test_ancImm0B :
    let t := result (.ancImm0B 0x80) (start 0x0400 0xFF 0x00 0x00 0xFD 0x30 [])
    regs t = ([0x80, 0x00, 0x00, 0xFD, 0xB1], 0x0402) ∧
    bus t = [rd 0x0400, rd 0x0401] := by
  decide +kernel

/-- Section 2.6: ANC #$7F (opcode 2B). -/
theorem test_ancImm2B :
    let t := result (.ancImm2B 0x7F) (start 0x0400 0xFF 0x00 0x00 0xFD 0x31 [])
    regs t = ([0x7F, 0x00, 0x00, 0xFD, 0x30], 0x0402) ∧
    bus t = [rd 0x0400, rd 0x0401] := by
  decide +kernel

/-- Section 2.6: ALR #$03. -/
theorem test_alrImm :
    let t := result (.alrImm 0x03) (start 0x0400 0xFF 0x00 0x00 0xFD 0x30 [])
    regs t = ([0x01, 0x00, 0x00, 0xFD, 0x31], 0x0402) ∧
    bus t = [rd 0x0400, rd 0x0401] := by
  decide +kernel

/-- Section 2.6: ARR #$FF. -/
theorem test_arrImm :
    let t := result (.arrImm 0xFF) (start 0x0400 0x80 0x00 0x00 0xFD 0x30 [])
    regs t = ([0x40, 0x00, 0x00, 0xFD, 0x71], 0x0402) ∧
    bus t = [rd 0x0400, rd 0x0401] := by
  decide +kernel

/-- Section 2.6: ARR #$FF (decimal). -/
theorem test_arrImm_2 :
    let t := result (.arrImm 0xFF) (start 0x0400 0xAA 0x00 0x00 0xFD 0x39 [])
    regs t = ([0x3B, 0x00, 0x00, 0xFD, 0xF9], 0x0402) ∧
    bus t = [rd 0x0400, rd 0x0401] := by
  decide +kernel

/-- Section 2.6: SBX #$01. -/
theorem test_sbxImm :
    let t := result (.sbxImm 0x01) (start 0x0400 0xFF 0x0F 0x00 0xFD 0x30 [])
    regs t = ([0xFF, 0x0E, 0x00, 0xFD, 0x31], 0x0402) ∧
    bus t = [rd 0x0400, rd 0x0401] := by
  decide +kernel

/-- Section 2.6: SBX #$10. -/
theorem test_sbxImm_2 :
    let t := result (.sbxImm 0x10) (start 0x0400 0x0F 0x0F 0x00 0xFD 0x71 [])
    regs t = ([0x0F, 0xFF, 0x00, 0xFD, 0xF0], 0x0402) ∧
    bus t = [rd 0x0400, rd 0x0401] := by
  decide +kernel

/-- Section 2.6: USBC #$01 (decimal). -/
theorem test_usbcImm :
    let t := result (.usbcImm 0x01) (start 0x0400 0x10 0x00 0x00 0xFD 0x39 [])
    regs t = ([0x09, 0x00, 0x00, 0xFD, 0x39], 0x0402) ∧
    bus t = [rd 0x0400, rd 0x0401] := by
  decide +kernel

/-- Section 2.6: LAS $1234,Y. -/
theorem test_lasAby :
    let t := result (.lasAby 0x1234) (start 0x0400 0x00 0x00 0x01 0xFD 0x30 [(0x1235, 0xF0)])
    regs t = ([0xF0, 0xF0, 0x01, 0xF0, 0xB0], 0x0403) ∧
    bus t = [rd 0x0400, rd 0x0401, rd 0x0402, rd 0x1235] := by
  decide +kernel

/-- Section 2.6: SHA $1234,Y. -/
theorem test_shaAby :
    let t := result (.shaAby 0x1234) (start 0x0400 0xFF 0xFF 0x01 0xFD 0x30 [])
    regs t = ([0xFF, 0xFF, 0x01, 0xFD, 0x30], 0x0403) ∧
    bus t = [rd 0x0400, rd 0x0401, rd 0x0402, rd 0x1235, wr 0x1235 0x13] := by
  decide +kernel

/-- Section 2.6: SHA ($10),Y. -/
theorem test_shaIzy :
    let t := result (.shaIzy 0x10) (start 0x0400 0xFF 0x0F 0x01 0xFD 0x30 [(0x0010, 0x34), (0x0011, 0x12)])
    regs t = ([0xFF, 0x0F, 0x01, 0xFD, 0x30], 0x0402) ∧
    bus t = [rd 0x0400, rd 0x0401, rd 0x0010, rd 0x0011, rd 0x1235, wr 0x1235 0x03] := by
  decide +kernel

/-- Section 2.6: SHX $12F0,Y (page cross). -/
theorem test_shxAby :
    let t := result (.shxAby 0x12F0) (start 0x0400 0x00 0xFF 0x20 0xFD 0x30 [])
    regs t = ([0x00, 0xFF, 0x20, 0xFD, 0x30], 0x0403) ∧
    bus t = [rd 0x0400, rd 0x0401, rd 0x0402, rd 0x1210, wr 0x1310 0x13] := by
  decide +kernel

/-- Section 2.6: SHX $12F0,Y (page cross, X=01). -/
theorem test_shxAby_2 :
    let t := result (.shxAby 0x12F0) (start 0x0400 0x00 0x01 0x20 0xFD 0x30 [])
    regs t = ([0x00, 0x01, 0x20, 0xFD, 0x30], 0x0403) ∧
    bus t = [rd 0x0400, rd 0x0401, rd 0x0402, rd 0x1210, wr 0x0110 0x01] := by
  decide +kernel

/-- Section 2.6: SHY $1234,X. -/
theorem test_shyAbx :
    let t := result (.shyAbx 0x1234) (start 0x0400 0x00 0x01 0xFF 0xFD 0x30 [])
    regs t = ([0x00, 0x01, 0xFF, 0xFD, 0x30], 0x0403) ∧
    bus t = [rd 0x0400, rd 0x0401, rd 0x0402, rd 0x1235, wr 0x1235 0x13] := by
  decide +kernel

/-- Section 2.6: TAS $1234,Y. -/
theorem test_tasAby :
    let t := result (.tasAby 0x1234) (start 0x0400 0xFF 0x3F 0x01 0xFD 0x30 [])
    regs t = ([0xFF, 0x3F, 0x01, 0x3F, 0x30], 0x0403) ∧
    bus t = [rd 0x0400, rd 0x0401, rd 0x0402, rd 0x1235, wr 0x1235 0x13] := by
  decide +kernel

/-- Section 2.6: NOP (opcode 1A). -/
theorem test_nopImp1A :
    let t := result (.nopImp1A) (start 0x0400 0x01 0x00 0x00 0xFD 0xF3 [])
    regs t = ([0x01, 0x00, 0x00, 0xFD, 0xF3], 0x0401) ∧
    bus t = [rd 0x0400, rd 0x0401] := by
  decide +kernel

/-- Section 2.6: NOP #$55 (opcode 80). -/
theorem test_nopImm80 :
    let t := result (.nopImm80 0x55) (start 0x0400 0x00 0x00 0x00 0xFD 0x30 [])
    regs t = ([0x00, 0x00, 0x00, 0xFD, 0x30], 0x0402) ∧
    bus t = [rd 0x0400, rd 0x0401] := by
  decide +kernel

/-- Section 2.6: NOP $10 (opcode 04). -/
theorem test_nopZp04 :
    let t := result (.nopZp04 0x10) (start 0x0400 0x00 0x00 0x00 0xFD 0x30 [])
    regs t = ([0x00, 0x00, 0x00, 0xFD, 0x30], 0x0402) ∧
    bus t = [rd 0x0400, rd 0x0401, rd 0x0010] := by
  decide +kernel

/-- Section 2.6: NOP $10,X (opcode 14). -/
theorem test_nopZpx14 :
    let t := result (.nopZpx14 0x10) (start 0x0400 0x00 0x01 0x00 0xFD 0x30 [])
    regs t = ([0x00, 0x01, 0x00, 0xFD, 0x30], 0x0402) ∧
    bus t = [rd 0x0400, rd 0x0401, rd 0x0010, rd 0x0011] := by
  decide +kernel

/-- Section 2.6: NOP $1234 (opcode 0C). -/
theorem test_nopAbs :
    let t := result (.nopAbs 0x1234) (start 0x0400 0x00 0x00 0x00 0xFD 0x30 [])
    regs t = ([0x00, 0x00, 0x00, 0xFD, 0x30], 0x0403) ∧
    bus t = [rd 0x0400, rd 0x0401, rd 0x0402, rd 0x1234] := by
  decide +kernel

/-- Section 2.6: NOP $12F0,X (opcode 1C, page cross). -/
theorem test_nopAbx1C :
    let t := result (.nopAbx1C 0x12F0) (start 0x0400 0x00 0x20 0x00 0xFD 0x30 [])
    regs t = ([0x00, 0x20, 0x00, 0xFD, 0x30], 0x0403) ∧
    bus t = [rd 0x0400, rd 0x0401, rd 0x0402, rd 0x1210, rd 0x1310] := by
  decide +kernel

/-! The machine around the instructions (spec/95_test_vectors.md sections 1.4, 1.5, 1.6, 2.6, 2.7, 2.8, 2.9). -/

/-- A step fetches and runs the instruction at `PC`: LDA $1234, section 2.1. -/
theorem test_step_fetches : regs (stepped (start 0x0400 0 0 0 0xFD 0x30 [(0x0400, 0xAD), (0x0401, 0x34), (0x0402, 0x12),
    (0x1234, 0xFE)])) = ([0xFE, 0, 0, 0xFD, 0xB0], 0x0403) := by decide +kernel

/-- LDX $F0,Y wraps to the port at address 1, `PORT_IN` = 17 (section 2.1). -/
theorem test_port_read : (result (.ldxZpy 0xF0) { start 0x0400 0 0 0x11 0xFD 0x30 [] with
      inputs := List.replicate 4 (.cycle { quietInput 0 with pins := 0b00010 }) }).cpu.x = 0x10 := by decide +kernel

/-- STA $01 with 06 selects configuration 9 at once (section 1.6, step 7). -/
theorem test_port_switch : (result (.staZp 0x01) (start 0x0400 0x06 0 0 0xFD 0x30 [])).cfg = 9 := by decide +kernel

/-- Rows 31, 30, 24, 16 and 3 of section 1.5. -/
theorem test_pla_table : cfgOf 0 0 true true = 13 ∧ cfgOf 7 6 true true = 9 ∧ cfgOf 7 0 true true = 0 ∧
    cfgOf 7 0 true false = 11 ∧ cfgOf 7 3 false false = 2 ∧ regionOf 2 .read 0xA000 = .romh ∧
    regionOf 11 .read 0x1000 = .disconnected ∧ regionOf 13 .write 0xE000 = .ram := by decide

/-- The vectors and the break entry of section 1.4. -/
def vectors : List (Addr × Byte) :=
  [(0xFFFA, 0x00), (0xFFFB, 0x90), (0xFFFC, 0x00), (0xFFFD, 0xE0), (0xFFFE, 0x00), (0xFFFF, 0x80)]

/-- BRK at 0400 with `set_nmi(1)` at the end of break cycle `j` and after (section 1.4). -/
def hijacked (j : Nat) : State :=
  { start 0x0400 0 0 0 0xFD 0x30 vectors with
    inputs := (List.range 7).map (fun k => Event.cycle { quietInput (0 + k) with irq := false, nmi := decide (j ≤ k + 1) }) }

/-- Row 4 of section 1.4: hijacked. -/
theorem test_hijack_4 : bus (result .brk (hijacked 4)) =
    [rd 0x0400, rd 0x0401, wr 0x01FD 0x04, wr 0x01FC 0x02, wr 0x01FB 0x30, rd 0xFFFA, rd 0xFFFB] ∧
    (result .brk (hijacked 4)).cpu.nmiT = .idle := by decide +kernel

/-- Row 5 of section 1.4: not hijacked, and the request stays. -/
theorem test_hijack_5 : bus (result .brk (hijacked 5)) =
    [rd 0x0400, rd 0x0401, wr 0x01FD 0x04, wr 0x01FC 0x02, wr 0x01FB 0x30, rd 0xFFFE, rd 0xFFFF] ∧
    (result .brk (hijacked 5)).cpu.nmiT = .usable := by decide +kernel

/-- Cycles 3 to 9 of the first row of section 2.7: an IRQ found at the boundary before 0401. -/
def irqPending : State :=
  { start 0x0401 0 0 0 0xFD 0x30 ((0x0401, 0xEA) :: vectors) with
    cpu := { (start 0x0401 0 0 0 0xFD 0x30 []).cpu with irqT := .usable },
    inputs := (List.range 7).map (fun k => input false true false k) }

theorem test_irq_entry : bus (stepped irqPending) =
    [rd 0x0401, rd 0x0401, wr 0x01FD 0x04, wr 0x01FC 0x01, wr 0x01FB 0x20, rd 0xFFFE, rd 0xFFFF] ∧
    regs (stepped irqPending) = ([0, 0, 0, 0xFA, 0x34], 0x8000) := by decide +kernel

/-- The same entry with an NMI edge at the end of its cycle `j` (section 1.4, the IRQ entry). -/
def irqHijacked (j : Nat) : State :=
  { irqPending with
    inputs := (List.range 7).map (fun k => Event.cycle { quietInput (0 + k) with irq := true, nmi := decide (j ≤ k + 1) }) }

/-- Section 1.4, `set_nmi(1)` at the end of cycles 6 and 7 of the IRQ trace: entry cycles 4 and 5. -/
theorem test_irq_hijack : bus (stepped (irqHijacked 4)) =
    [rd 0x0401, rd 0x0401, wr 0x01FD 0x04, wr 0x01FC 0x01, wr 0x01FB 0x20, rd 0xFFFA, rd 0xFFFB] ∧
    bus (stepped (irqHijacked 5)) =
    [rd 0x0401, rd 0x0401, wr 0x01FD 0x04, wr 0x01FC 0x01, wr 0x01FB 0x20, rd 0xFFFE, rd 0xFFFF] := by decide +kernel

/-- The third row of section 2.7: with `I` = 1 the request is not taken, and NOP runs. -/
theorem test_irq_masked :
    (stepped { irqPending with cpu := { irqPending.cpu with p := 0x34 } }).cpu.pc = 0x0402 := by decide +kernel

/-- The first example of section 2.8: INC $10 with the bus withheld in cycles 3, 4, 5. -/
theorem test_stall : bus (result (.incZp 0x10) { start 0x0400 0 0 0 0xFD 0x30 [(0x0010, 0x7F)] with
      inputs := [input false false false 0, input false false false 1, input true false false 2,
                 input true false false 3, input true false false 4] }) =
    [rd 0x0400, rd 0x0401, none, none, none, rd 0x0010, wr 0x0010 0x7F, wr 0x0010 0x80] := by decide +kernel

/-- The reset sequence of section 2.9: seven reads, `S` decremented three times, no write. -/
theorem test_reset_sequence :
    bus (stepped { start 0x1234 0x11 0 0 0x00 0xFF [] with cpu := { (start 0x1234 0x11 0 0 0x00 0xFF []).cpu with mcp := 208 } }) =
      [rd 0x1234, rd 0x1234, rd 0x0100, rd 0x01FF, rd 0x01FE, rd 0xFFFC, rd 0xFFFD] := by decide +kernel

/-- From `State.reset` the first step is the reset sequence, which ends at its opcode fetch (rule R472). -/
theorem test_reset_first_step : (stepped State.reset).cpu.mcp = 215 ∧ (stepped State.reset).cpu.s = 0xFD := by decide +kernel

/-- JAM halts (end of section 2.6). -/
def jammed : State := result .jam02 (start 0x0400 0 0 0 0xFD 0x30 [])

theorem test_jam : isHalted jammed.cpu.mcp = true ∧ jammed.cpu.pc = 0x0401 ∧ bus jammed = [rd 0x0400, rd 0x0401] := by
  decide +kernel

/-- Halted, a step is one dummy read and stays halted (rule R450). -/
theorem test_halted_step : isHalted (stepped jammed).cpu.mcp = true ∧ bus (stepped jammed) = [rd 0x0401] := by decide +kernel

/-- `resume()` puts the cursor past the halt slot (rule R451). -/
theorem test_resume : (stepped { jammed with inputs := [.host .resume] }).cpu.mcp = 207 := by decide +kernel

/-- `warm_reset()` keeps `A` and sets `I`, `U`, `B` (section 2.9). -/
theorem test_warmReset :
    let t := stepped { start 0x1234 0x11 0 0 0x00 0xCB [] with inputs := [.host (.warmReset none)] }
    t.cpu.a = 0x11 ∧ t.cpu.p = 0xFF ∧ t.cfg = 13 := by decide +kernel

/-! Witnesses: for each obligation with hypotheses a concrete state and operands that meet them together; where a
statement ranges over a list of instructions, the last part applies it to one of them. -/

/-- A boundary, nothing queued, nothing found. -/
def ready : State := start 0x0400 0 0 0 0xFD 0x30 []

/-- The same with the index registers at 0x20, so that a base of 0x12F0 crosses its page and 0x1234 does not. -/
def indexed : State := start 0x0400 0 0x20 0x20 0xFD 0x30 []

/-- The same with `($nn),Y` pointers: at 20 to 1234, at 22 to 12F0. -/
def pointers : State :=
  start 0x0400 0 0x20 0x20 0xFD 0x30 [(0x0020, 0x34), (0x0021, 0x12), (0x0022, 0xF0), (0x0023, 0x12)]

theorem test_ready : ready.Ready := ⟨by decide +kernel, rfl, by decide +kernel⟩

theorem test_ready_inv : ready.Inv :=
  ⟨⟨by decide, by decide, by decide, by decide⟩, ⟨by decide, by decide, by decide, by decide⟩, by decide, by decide,
    by decide⟩

theorem test_indexed : indexed.Ready := ⟨by decide +kernel, rfl, by decide +kernel⟩

theorem test_indexed_inv : indexed.cpu.Inv := ⟨by decide, by decide, by decide, by decide⟩

theorem test_pointers : pointers.Ready := ⟨by decide +kernel, rfl, by decide +kernel⟩

theorem test_pointers_inv : pointers.cpu.Inv := ⟨by decide, by decide, by decide, by decide⟩

theorem test_witness_DecodeEncode : Instr.wellFormed .brk = true ∧ Instr.wellFormed (.iscAbx 0xFFFF) = true := by decide

/-- Both clauses of `StepRunsDecoded`: LDA #$42 at `PC`, and JSR $1234. -/
theorem test_witness_StepRunsDecoded :
    let s := start 0x0400 0 0 0 0xFD 0x30 [(0x0400, 0xA9), (0x0401, 0x42)]
    let j := start 0x0400 0 0 0 0xFD 0x30 [(0x0400, 0x20), (0x0401, 0x34), (0x0402, 0x12)]
    s.Ready ∧ s.readAt 0 s.cpu.pc ≠ 0x20 ∧
      decode [s.readAt 0 s.cpu.pc, s.readAt 1 (s.cpu.pc + 1), s.readAt 2 (s.cpu.pc + 2)] = .ok (.ldaImm 0x42, [0]) ∧
      j.Ready ∧ j.readAt 0 j.cpu.pc = 0x20 :=
  ⟨⟨by decide +kernel, rfl, by decide +kernel⟩, by decide +kernel, by decide +kernel,
    ⟨by decide +kernel, rfl, by decide +kernel⟩, by decide +kernel⟩

theorem test_witness_StepKeepsInv : ready.Inv ∧ step ready = .next (stepped ready) :=
  ⟨test_ready_inv, rfl⟩

theorem test_witness_ImpliedResult : ready.Ready ∧ (Obligations.ImpliedResult → ∃ t, exec .aslAcc ready = .next t) :=
  ⟨test_ready, fun h => (h ready test_ready .aslAcc 0x0A (shiftA asl8) (by simp)).imp fun _ k => k.1⟩

theorem test_witness_ImmediateResult :
    ready.Ready ∧ (Obligations.ImmediateResult → ∃ t, exec (.oraImm 0x80) ready = .next t) :=
  ⟨test_ready, fun h => (h ready 0x80 test_ready (.oraImm 0x80) 0x09 opOra (by simp)).imp fun _ k => k.1⟩

theorem test_witness_DirectReadResult :
    ready.Ready ∧ ready.cpu.Inv ∧
    (Obligations.DirectReadResult →
      (∃ t, exec (.nopZp04 0xFF) ready = .next t) ∧ ∃ t, exec (.nopAbs 0xFFFF) ready = .next t) :=
  ⟨test_ready, test_ready_inv.primary, fun h =>
    ⟨(h.1 ready 0xFF test_ready test_ready_inv.primary (.nopZp04 0xFF) 0x04 opNop (by simp)).imp fun _ k => k.1,
     (h.2 ready 0xFFFF test_ready (.nopAbs 0xFFFF) 0x0C opNop (by simp)).imp fun _ k => k.1⟩⟩

theorem test_witness_ZeroPageIndexedReadResult :
    indexed.Ready ∧ indexed.cpu.Inv ∧
    (Obligations.ZeroPageIndexedReadResult →
      (∃ t, exec (.nopZpx14 0xF0) indexed = .next t) ∧ ∃ t, exec (.ldxZpy 0xF0) indexed = .next t) :=
  ⟨test_indexed, test_indexed_inv, fun h =>
    ⟨(h.1 indexed 0xF0 test_indexed test_indexed_inv (.nopZpx14 0xF0) 0x14 opNop (by simp)).imp fun _ k => k.1,
     (h.2 indexed 0xF0 test_indexed test_indexed_inv (.ldxZpy 0xF0) 0xB6 opLdx (by simp)).imp fun _ k => k.1⟩⟩

/-- Both lists, with and without a page cross. -/
theorem test_witness_AbsoluteIndexedReadResult :
    indexed.Ready ∧ pageCross 0x12F0 indexed.cpu.x = true ∧ pageCross 0x1234 indexed.cpu.x = false ∧
    pageCross 0x12F0 indexed.cpu.y = true ∧ pageCross 0x1234 indexed.cpu.y = false ∧
    (Obligations.AbsoluteIndexedReadResult →
      (∃ t, exec (.nopAbx1C 0x12F0) indexed = .next t) ∧ ∃ t, exec (.oraAby 0x1234) indexed = .next t) :=
  ⟨test_indexed, by decide, by decide, by decide, by decide, fun h =>
    ⟨(h.1 indexed 0x12F0 test_indexed (.nopAbx1C 0x12F0) 0x1C opNop (by simp)).imp fun _ k => k.1,
     (h.2 indexed 0x1234 test_indexed (.oraAby 0x1234) 0x19 opOra (by simp)).imp fun _ k => k.1⟩⟩

theorem test_witness_IndexedIndirectReadResult :
    indexed.Ready ∧ indexed.cpu.Inv ∧
    (Obligations.IndexedIndirectReadResult → ∃ t, exec (.oraIzx 0xDF) indexed = .next t) :=
  ⟨test_indexed, test_indexed_inv, fun h =>
    (h indexed 0xDF test_indexed test_indexed_inv (.oraIzx 0xDF) 0x01 opOra (by simp)).imp fun _ k => k.1⟩

theorem test_witness_IndirectIndexedReadResult :
    pointers.Ready ∧ pointers.cpu.Inv ∧ pageCross (pointerY pointers 0x22) pointers.cpu.y = true ∧
    pageCross (pointerY pointers 0x20) pointers.cpu.y = false ∧
    (Obligations.IndirectIndexedReadResult → ∃ t, exec (.oraIzy 0x22) pointers = .next t) :=
  ⟨test_pointers, test_pointers_inv, by decide +kernel, by decide +kernel, fun h =>
    (h pointers 0x22 test_pointers test_pointers_inv (.oraIzy 0x22) 0x11 opOra (by simp)).imp fun _ k => k.1⟩

theorem test_witness_DirectStoreResult :
    ready.Ready ∧ ready.cpu.Inv ∧
    (Obligations.DirectStoreResult →
      (∃ t, exec (.styZp 0x00) ready = .next t) ∧ ∃ t, exec (.styAbs 0xFFFF) ready = .next t) :=
  ⟨test_ready, test_ready_inv.primary, fun h =>
    ⟨(h.1 ready 0x00 test_ready test_ready_inv.primary (.styZp 0x00) 0x84 (fun c => c.y) (by simp)).imp fun _ k => k.1,
     (h.2 ready 0xFFFF test_ready (.styAbs 0xFFFF) 0x8C (fun c => c.y) (by simp)).imp fun _ k => k.1⟩⟩

theorem test_witness_ZeroPageIndexedStoreResult :
    indexed.Ready ∧ indexed.cpu.Inv ∧
    (Obligations.ZeroPageIndexedStoreResult →
      (∃ t, exec (.styZpx 0xF0) indexed = .next t) ∧ ∃ t, exec (.stxZpy 0xF0) indexed = .next t) :=
  ⟨test_indexed, test_indexed_inv, fun h =>
    ⟨(h.1 indexed 0xF0 test_indexed test_indexed_inv (.styZpx 0xF0) 0x94 (fun c => c.y) (by simp)).imp fun _ k => k.1,
     (h.2 indexed 0xF0 test_indexed test_indexed_inv (.stxZpy 0xF0) 0x96 (fun c => c.x) (by simp)).imp fun _ k => k.1⟩⟩

theorem test_witness_AbsoluteIndexedStoreResult :
    indexed.Ready ∧
    (Obligations.AbsoluteIndexedStoreResult →
      (∃ t, exec (.staAbx 0x12F0) indexed = .next t) ∧ ∃ t, exec (.staAby 0x12F0) indexed = .next t) :=
  ⟨test_indexed, fun h =>
    ⟨(h.1 indexed 0x12F0 test_indexed (.staAbx 0x12F0) 0x9D (fun c => c.a) (by simp)).imp fun _ k => k.1,
     (h.2 indexed 0x12F0 test_indexed (.staAby 0x12F0) 0x99 (fun c => c.a) (by simp)).imp fun _ k => k.1⟩⟩

theorem test_witness_IndirectStoreResult :
    pointers.Ready ∧ pointers.cpu.Inv ∧
    (Obligations.IndirectStoreResult →
      (∃ t, exec (.staIzx 0x00) pointers = .next t) ∧ ∃ t, exec (.staIzy 0x22) pointers = .next t) :=
  ⟨test_pointers, test_pointers_inv, fun h =>
    ⟨(h.1 pointers 0x00 test_pointers test_pointers_inv (.staIzx 0x00) 0x81 (fun c => c.a) (by simp)).imp fun _ k => k.1,
     (h.2 pointers 0x22 test_pointers test_pointers_inv (.staIzy 0x22) 0x91 (fun c => c.a) (by simp)).imp fun _ k => k.1⟩⟩

/-- All three lists; the page cross is met with SHY and SHA, its absence with TAS. -/
theorem test_witness_HighByteMaskedStoreResult :
    pointers.Ready ∧ pointers.cpu.Inv ∧ pageCross 0x12F0 pointers.cpu.x = true ∧
    pageCross 0x1234 pointers.cpu.y = false ∧ pageCross (pointerY pointers 0x22) pointers.cpu.y = true ∧
    (Obligations.HighByteMaskedStoreResult →
      (∃ t, exec (.shyAbx 0x12F0) pointers = .next t) ∧ (∃ t, exec (.tasAby 0x1234) pointers = .next t) ∧
      ∃ t, exec (.shaIzy 0x22) pointers = .next t) :=
  ⟨test_pointers, test_pointers_inv, by decide, by decide, by decide +kernel, fun h =>
    ⟨(h.1 pointers 0x12F0 test_pointers (.shyAbx 0x12F0) 0x9C (fun c => c.y) (by simp) _ _ rfl rfl).imp fun _ k => k.1,
     (h.2.1 pointers 0x1234 test_pointers (.tasAby 0x1234) 0x9B (fun c => c.a &&& c.x) (by simp) _ _ rfl rfl).imp
       fun _ k => k.1,
     (h.2.2 pointers 0x22 test_pointers test_pointers_inv (.shaIzy 0x22) 0x93 (fun c => c.a &&& c.x) (by simp) _ _ rfl
       rfl).imp fun _ k => k.1⟩⟩

theorem test_witness_ZeroPageModifyResults :
    indexed.Ready ∧ indexed.cpu.Inv ∧
    (Obligations.ZeroPageModifyResults →
      (∃ t, exec (.aslZp 0x01) indexed = .next t) ∧ ∃ t, exec (.aslZpx 0xF0) indexed = .next t) :=
  ⟨test_indexed, test_indexed_inv, fun h =>
    ⟨(h.1 indexed 0x01 test_indexed test_indexed_inv (.aslZp 0x01) 0x06 (shiftD asl8) (by simp) _ rfl).imp fun _ k => k.1,
     (h.2 indexed 0xF0 test_indexed test_indexed_inv (.aslZpx 0xF0) 0x16 (shiftD asl8) (by simp) _ rfl).imp
       fun _ k => k.1⟩⟩

theorem test_witness_AbsoluteModifyResult :
    ready.Ready ∧ (Obligations.AbsoluteModifyResult → ∃ t, exec (.aslAbs 0xFFFF) ready = .next t) :=
  ⟨test_ready, fun h =>
    (h ready 0xFFFF test_ready (.aslAbs 0xFFFF) 0x0E (shiftD asl8) (by simp) _ rfl).imp fun _ k => k.1⟩

theorem test_witness_AbsoluteIndexedModifyResult :
    indexed.Ready ∧
    (Obligations.AbsoluteIndexedModifyResult →
      (∃ t, exec (.aslAbx 0x12F0) indexed = .next t) ∧ ∃ t, exec (.sloAby 0x1234) indexed = .next t) :=
  ⟨test_indexed, fun h =>
    ⟨(h.1 indexed 0x12F0 test_indexed (.aslAbx 0x12F0) 0x1E (shiftD asl8) (by simp) _ rfl).imp fun _ k => k.1,
     (h.2 indexed 0x1234 test_indexed (.sloAby 0x1234) 0x1B opSlo (by simp) _ rfl).imp fun _ k => k.1⟩⟩

theorem test_witness_IndirectModifyResult :
    pointers.Ready ∧ pointers.cpu.Inv ∧
    (Obligations.IndirectModifyResult →
      (∃ t, exec (.sloIzx 0x00) pointers = .next t) ∧ ∃ t, exec (.sloIzy 0x22) pointers = .next t) :=
  ⟨test_pointers, test_pointers_inv, fun h =>
    ⟨(h.1 pointers 0x00 test_pointers test_pointers_inv (.sloIzx 0x00) 0x03 opSlo (by simp) _ rfl).imp fun _ k => k.1,
     (h.2 pointers 0x22 test_pointers test_pointers_inv (.sloIzy 0x22) 0x13 opSlo (by simp) _ rfl).imp fun _ k => k.1⟩⟩

/-- `JumpResult`, `RtiResult`, `PushResult`, `PullResult`, `MaskInstructionResult` need a ready state alone;
`SubroutineResult` the return address that RTS reads. -/
theorem test_witness_SubroutineResult :
    ready.Ready ∧ pair (ready.readAt 4 (stackAbove ready.cpu 2)) (ready.readAt 3 (stackAbove ready.cpu 1)) = 0x0000 :=
  ⟨test_ready, by decide +kernel⟩

theorem test_witness_JumpResult : ready.Ready ∧ indexed.Ready := ⟨test_ready, test_indexed⟩

theorem test_witness_RtiResult : ready.Ready := test_ready

theorem test_witness_PushResult : ready.Ready := test_ready

theorem test_witness_PullResult : ready.Ready := test_ready

theorem test_witness_MaskInstructionResult : ready.Ready := test_ready

/-- Taken, from `PC + 2` = 0402: displacement 7F stays in page 04, 80 leaves it; not taken with `Z` = 0. -/
theorem test_witness_BranchResult :
    ready.Ready ∧ hi (eaRelative (ready.cpu.pc + 2) 0x7F) = hi (ready.cpu.pc + 2) ∧
    hi (eaRelative (ready.cpu.pc + 2) 0x80) ≠ hi (ready.cpu.pc + 2) ∧
    (!flag (entryP ready.cpu) .n) = true ∧ flag (entryP ready.cpu) .z = false ∧
    (Obligations.BranchResult → ∃ t, exec (.bplRel 0x80) ready = .next t) :=
  ⟨test_ready, by decide, by decide, by decide +kernel, by decide +kernel, fun h =>
    (h ready 0x80 test_ready (.bplRel 0x80) 0x10 (fun p => !flag p .n) (by simp)).imp fun _ k => k.1⟩

/-- `ready` with an NMI request too late for the boundary (rule R423), so that the break is hijacked. -/
def late : State := { ready with cpu := { ready.cpu with nmiT := .requested } }

theorem test_late : late.Ready ∧ late.cpu.nmiT ≠ .idle := ⟨⟨by decide +kernel, rfl, by decide +kernel⟩, by decide⟩

/-- Both vectors. -/
theorem test_witness_SoftwareBreakResult :
    ready.Ready ∧ late.Ready ∧
    (Obligations.SoftwareBreakResult → (∃ t, exec .brk ready = .next t) ∧ ∃ t, exec .brk late = .next t) :=
  ⟨test_ready, test_late.1, fun h =>
    ⟨(h ready _ _ _ _ _ test_ready rfl rfl rfl rfl rfl).imp fun _ k => k.1,
     (h late _ _ _ _ _ test_late.1 rfl rfl rfl rfl rfl).imp fun _ k => k.1⟩⟩

/-- An IRQ found, and an NMI found. -/
theorem test_witness_HardwareEntryResult :
    let i : State := { ready with cpu := { ready.cpu with irqT := .usable } }
    let n : State := { ready with cpu := { ready.cpu with nmiT := .usable } }
    isBoundary i.cpu.mcp = true ∧ i.inputs = [] ∧ foundSources i.cpu ≠ 0 ∧
    isBoundary n.cpu.mcp = true ∧ n.inputs = [] ∧ foundSources n.cpu ≠ 0 ∧ Instr.wellFormed .nopImpEA = true := by
  decide +kernel

theorem test_hijacked_calm (j : Nat) : foundSources (hijacked j).cpu = 0 :=
  (by decide +kernel : foundSources (hijacked 1).cpu = 0)

theorem test_irqHijacked_found (j : Nat) : foundSources (irqHijacked j).cpu = srcIrq :=
  (by decide +kernel : foundSources (irqHijacked 1).cpu = srcIrq)

/-- The edge at the end of entry cycles 1, 4, 5 and 7, the four boundary values of the window, in a BRK entry and in an IRQ
entry. -/
theorem test_witness_HijackWindow :
    isBoundary (hijacked 1).cpu.mcp = true ∧ foundSources (hijacked 1).cpu = 0 ∧ (hijacked 1).cpu.nmiT = .idle ∧
    (hijacked 1).cpu.nmiLine = false ∧ foundSources (irqHijacked 1).cpu = srcIrq ∧
    (Obligations.HijackWindow → ∀ j ∈ [1, 4, 5, 7],
      (∃ t, exec .brk (hijacked j) = .next t) ∧ ∃ t, exec .nopImpEA (irqHijacked j) = .next t) :=
  ⟨by decide +kernel, by decide +kernel, by decide +kernel, by decide +kernel, by decide +kernel, fun h j hj => by
    obtain ⟨h1, h7⟩ : 1 ≤ j ∧ j ≤ 7 := by revert hj; revert j; decide
    exact
      ⟨(h.1 (hijacked j) _ j false _ _ _ test_ready.boundary (test_hijacked_calm j) rfl rfl h1 h7 rfl rfl rfl rfl rfl).imp
         fun _ k => k.1,
       (h.2 (irqHijacked j) _ .nopImpEA j true _ _ _ test_ready.boundary (test_irqHijacked_found j) (by decide) rfl rfl h1
         h7 rfl rfl rfl rfl rfl).imp fun _ k => k.1⟩⟩

theorem test_witness_ResetSequenceResult :
    State.reset.inputs = [] ∧ (Obligations.ResetSequenceResult → ∃ t, exec .reset State.reset = .next t) :=
  ⟨rfl, fun h => (h State.reset _ rfl rfl).imp fun _ k => k.1⟩

/-- A JAM opcode from a ready state, and a halted state. -/
theorem test_witness_JamResult :
    let j : State := { ready with cpu := { ready.cpu with mcp := 206 } }
    ready.Ready ∧ isHalted j.cpu.mcp = true ∧ j.inputs = [] ∧
    (Obligations.JamResult → (∃ t, exec .jam02 ready = .next t) ∧ ∃ t, step j = .next t) :=
  ⟨test_ready, by decide, rfl, fun h =>
    ⟨(h.1 ready test_ready .jam02 0x02 (fun c => c) (by simp)).imp fun _ k => k.1,
     (h.2 _ (by decide) rfl).imp fun _ k => k.1⟩⟩

/-- An engine with the given accumulator, data cell and status. -/
def alu (a d p : Byte) : Cpu := { Cpu.reset with a := a, d := d, p := p }

/-- Both modes, at the operands 00, 99 and FF; the low digits below and above the adjustment. -/
theorem test_witness_AdcRule :
    flag (alu 0xFF 0xFF 0x31).p .d = false ∧ flag (alu 0x99 0x01 0x38).p .d = true ∧
    (alu 0x99 0x01 0x38).a.toNat = 0x99 ∧ carryNat (flag (alu 0xFF 0xFF 0x31).p .c) = 1 ∧
    (opAdc (alu 0xFF 0xFF 0x31)).a = 0xFF ∧ (opAdc (alu 0x99 0x01 0x38)).a = 0x00 := by decide

theorem test_witness_SbcRule :
    flag (alu 0x00 0xFF 0x30).p .d = false ∧ flag (alu 0x00 0x01 0x39).p .d = true ∧
    (opSbc (alu 0x00 0xFF 0x30)).a = 0x00 ∧ (opSbc (alu 0x00 0x01 0x39)).a = 0x99 := by decide

theorem test_witness_DecimalIsDecimal :
    flag (alu 0x99 0x99 0x39).p .d = true ∧ isBcd (alu 0x99 0x99 0x39).a = true ∧ isBcd (alu 0x99 0x99 0x39).d = true ∧
    (opAdc (alu 0x99 0x99 0x39)).a = 0x99 := by decide

theorem test_witness_OperationResults :
    Obligations.OperationResults → flag (opSed (alu 0 0 0x30)).p .d = true :=
  fun h => ((h.2 (alu 0 0 0x30)).1 opSed .d true (by simp)).2.1

theorem test_witness_UndocumentedResult :
    Obligations.UndocumentedResult → (opAnc (alu 0xFF 0x80 0x30)).a = 0x80 :=
  fun h => congrArg Cpu.a (h (alu 0xFF 0x80 0x30) _ _ _ _ _ rfl rfl rfl rfl rfl).1.1

theorem test_witness_CompareRule :
    Obligations.CompareRule → flag (opCmp (alu 0x40 0x41 0x30)).p .c = decide ((0 : Int) ≤ 0x40 - 0x41) :=
  fun h => (h (alu 0x40 0x41 0x30) opCmp 0x40 _ (by simp [alu]) rfl).2.1

theorem test_witness_ShiftRule : carryNat (flag 0x31 .c) = 1 ∧ carryNat (flag 0x30 .c) = 0 := by decide

/-- Both modes, with the low and the high adjustment of the decimal one. -/
theorem test_witness_ArrRule :
    flag (alu 0x80 0xFF 0x30).p .d = false ∧ flag (alu 0x55 0xFF 0x38).p .d = true ∧
    (opArr (alu 0x80 0xFF 0x30)).a = 0x40 ∧ (opArr (alu 0x55 0xFF 0x38)).a = 0x80 := by decide

/-- The two clauses of each setter, and a consumed request: record 188 of the break entry. -/
theorem test_witness_SettersRule :
    ready.cpu.irqT = .idle ∧ (late.cpu.nmiT ≠ .idle) ∧ ready.cpu.nmiLine = false ∧
    let s : State := { late with cpu := { late.cpu with mcp := 188 } }
    s.cpu.nmiT ≠ .idle ∧ (systemCycle [] s).cpu.nmiT = .idle := by decide +kernel

/-- A boundary with a source found (IRQ, NMI), and one with none. -/
theorem test_witness_PollUsesOldMask :
    isBoundary ready.cpu.mcp = true ∧ (nextInput ready).bw = false ∧ foundSources ready.cpu = 0 ∧
    foundSources { ready.cpu with nmiT := .usable } = srcNmi ∧ foundSources { ready.cpu with irqT := .usable } = srcIrq ∧
    foundSources { ready.cpu with irqT := .usable, p := 0x34 } = 0 := by decide +kernel

/-- The hold record 203 and another, with a request of each kind. -/
theorem test_witness_BranchHold :
    let s : State := { ready with cpu := { ready.cpu with irqT := .requested, nmiT := .requested, nmiLine := true },
                                  inputs := [input false true true 0] }
    (nextInput s).bw = false ∧ (nextInput s).irq = true ∧ s.cpu.irqT = .requested ∧ s.cpu.nmiT = .requested ∧
    (romAt s.cpu.mcp).tag ≠ .brkVec ∧ (romAt 203).tag ≠ .brkVec ∧
    (systemCycle [] { s with cpu := { s.cpu with mcp := 203 } }).cpu.irqT = .requested := by decide +kernel

/-- A withheld cycle without and with a write of the master, with no cartridge notification; a notification in a withheld
cycle and in one that is not, which takes effect in it. -/
theorem test_witness_StallHolds :
    let s : State := { ready with inputs := [input true false false 0] }
    let m : State := { ready with inputs := [.cycle { quietInput 0 with bw := true, master := some (0x1234, 0x56) }] }
    (nextInput s).bw = true ∧ (nextInput s).master = none ∧ (nextInput s).cart = none ∧ s.ram.wf = true ∧
    (nextInput m).bw = true ∧ (nextInput m).master = some (0x1234, 0x56) ∧
    ∀ b, (let n : State := { ready with
            inputs := [.cycle { quietInput 0 with bw := b, cart := some { exrom := true, game := false } }] }
          (nextInput n).bw = b ∧ (nextInput n).cart = some { exrom := true, game := false } ∧
          (systemCycle [] n).cfg = 11) := by decide +kernel

theorem test_witness_ModeTable :
    Obligations.ModeTable → (cfgOf 0x07 0x06 true true).val = 9 :=
  fun h => h.1 0x07 0x06 true true
    (fun i => if (0x07 : Byte).getLsbD i then (if (0x06 : Byte).getLsbD i then 1 else 0) else 1) fun _ => rfl

theorem test_witness_WriteUnderRom :
    State.reset.cfg ≠ 11 ∧
    ([0xA000, 0xBFFF, 0xE000, 0xFFFF] : List Addr).all (fun a =>
      ([.basic, .kernal, .char, .roml, .romh] : List Region).contains (regionOf State.reset.cfg .read a)) = true := by
  decide +kernel

/-- A read of each kind, at both ends of its window. -/
theorem test_witness_reads :
    ([0xA000, 0xBFFF] : List Addr).all (fun a => regionOf 13 .read a = .basic) = true ∧
    ([0xE000, 0xFFFF] : List Addr).all (fun a => regionOf 13 .read a = .kernal) = true ∧
    ([0xD000, 0xDFFF] : List Addr).all (fun a => regionOf 12 .read a = .char) = true ∧
    ([0x8000, 0x9FFF] : List Addr).all (fun a => regionOf 10 .read a = .roml) = true ∧
    ([0xA000, 0xBFFF] : List Addr).all (fun a => regionOf 1 .read a = .romh) = true ∧
    ([0x1000, 0xCFFF] : List Addr).all (fun a => regionOf 11 .read a = .disconnected) = true := by decide +kernel

/-- Configuration 11 at the ends of every range; the I/O window at the ends of every slice. -/
theorem test_witness_UltimaxAndDevices :
    (cfgOf 0 0 true false = 11) ∧
    (Obligations.UltimaxAndDevices → ∀ s : State, s.cfg = 11 →
      (target s .write 0x8000 = .region .roml ∧ target s .write 0x9FFF = .region .roml) ∧
      (target s .write 0xE000 = .region .romh ∧ target s .write 0xFFFF = .region .romh) ∧
      target s .write 0x1000 = .region .disconnected ∧ target s .write 0x7FFF = .region .disconnected ∧
      target s .write 0xA000 = .region .disconnected ∧ target s .write 0xCFFF = .region .disconnected) ∧
    ([0xD000, 0xD3FF, 0xD400, 0xD7FF, 0xD800, 0xDBFF, 0xDC00, 0xDCFF, 0xDD00, 0xDDFF, 0xDE00, 0xDEFF, 0xDF00,
      0xDFFF] : List Addr).all (fun a => regionOf 13 .read a = .io) = true := by
  refine ⟨by decide, ?_, by decide +kernel⟩
  rintro ⟨-, -, h, -⟩ s hs
  have roml := fun a ha => ((h s a 0 hs).1 ha).1
  have romh := fun a ha => ((h s a 0 hs).2.1 ha).1
  have none := fun a ha => ((h s a 0 hs).2.2 ha).1
  exact ⟨⟨roml _ (by decide), roml _ (by decide)⟩, ⟨romh _ (by decide), romh _ (by decide)⟩,
    none _ (.inl (by decide)), none _ (.inl (by decide)), none _ (.inr (by decide)), none _ (.inr (by decide))⟩

/-- The first and the last bit of the port, pins low. -/
theorem test_witness_PortRule :
    let c : CycleInput := { quietInput 0 with pins := 0 }
    Obligations.PortRule → (busRead State.reset c 0x0001).getLsbD 0 = true ∧ (busRead State.reset c 0x0001).getLsbD 7 = false :=
  fun h => ⟨(h State.reset { quietInput 0 with pins := 0 } 0).2.1 0 (by decide),
    (h State.reset { quietInput 0 with pins := 0 } 0).2.1 7 (by decide)⟩

theorem test_witness_RamRule :
    State.reset.ram.wf = true ∧ isPort 0x0002 = false ∧ isPort 0x9FFF = false ∧
    regionOf State.reset.cfg .read 0x0002 = .ram ∧ regionOf State.reset.cfg .read 0x9FFF = .ram ∧
    regionOf State.reset.cfg .write 0xFFFF = .ram := by decide +kernel

theorem test_witness_StoresThatReadAlikeAreEqual :
    (Memory.ofPairs [(0x0010, 0x01), (0x0010, 0x00)]).wf = true ∧ (Memory.mk []).wf = true ∧
    ∀ a, (Memory.ofPairs [(0x0010, 0x01), (0x0010, 0x00)]).read a = (Memory.mk []).read a :=
  ⟨by decide, by decide, fun _ => rfl⟩

/-- A host operation at the head of the queue, halted and not. -/
theorem test_witness_ResumeRule :
    (Obligations.ResumeRule → ∃ t, step { jammed with inputs := [.host .resume] } = .next t) ∧
    (Obligations.ResumeRule → ∃ t, step { ready with inputs := [.host .resume] } = .next t) ∧
    (Obligations.ResumeRule → ∃ t, step { ready with inputs := [.host .driveResume] } = .next t) :=
  ⟨fun h => ⟨_, h.1 _ [] rfl⟩, fun h => ⟨_, h.1 _ [] rfl⟩, fun h => ⟨_, h.2.1 _ [] rfl⟩⟩

theorem test_witness_WarmResetRule :
    Obligations.WarmResetRule →
      (∃ t, step { ready with inputs := [.host (.warmReset none)] } = .next t) ∧
      ∃ t, step { ready with inputs := [.host (.warmReset (some ⟨true, false⟩))] } = .next t :=
  fun h => ⟨⟨_, (h _ [] none _ _ rfl rfl rfl).1⟩, ⟨_, (h _ [] (some ⟨true, false⟩) _ _ rfl rfl rfl).1⟩⟩

theorem test_witness_ColdResetRule :
    Obligations.ColdResetRule →
      (∃ t, step { ready with inputs := [.host (.coldReset none)] } = .next t) ∧
      (∃ t, step { ready with inputs := [.host (.coldReset (some ⟨false, true⟩))] } = .next t) ∧
      (∃ t, step { ready with inputs := [.host .driveColdReset] } = .next t) ∧
      ∃ t, step { ready with inputs := [.host .driveWarmReset] } = .next t :=
  fun h => ⟨(h.1 _ [] none rfl).imp fun _ k => k.1, (h.1 _ [] (some ⟨false, true⟩) rfl).imp fun _ k => k.1,
    (h.2 _ [] .driveColdReset (.inl rfl) rfl).imp fun _ k => k.1,
    (h.2 _ [] .driveWarmReset (.inr rfl) rfl).imp fun _ k => k.1⟩

/-- A secondary cycle that reads (record 208) and one that writes (record 186), with RAM in its form. -/
theorem test_witness_SecondaryRatio :
    (romAt State.reset.drive.cpu.mcp).rw = .read ∧ State.reset.drive.ram.wf = true ∧
    (Obligations.SecondaryRatio → (driveCycle (quietInput 0) State.reset.drive).ram = State.reset.drive.ram) ∧
    (romAt 186).rw = .write ∧
    (Obligations.SecondaryRatio →
      (driveCycle (quietInput 0) { State.reset.drive with cpu := { Cpu.reset with mcp := 186 } }).cpu =
        setLevels false false (tick { Cpu.reset with mcp := 186 })) :=
  ⟨by decide +kernel, by decide, fun h => ((h.2.2 (quietInput 0) State.reset.drive _ _ _ _ rfl rfl rfl rfl).1 _
      (by decide +kernel) rfl).2.1, by decide +kernel,
    fun h => ((h.2.2 (quietInput 0) { State.reset.drive with cpu := { Cpu.reset with mcp := 186 } } _ _ _ _ rfl rfl rfl
      rfl).2 (by decide +kernel)).1⟩

theorem test_witness_SnapshotRestore :
    State.reset.cfg = cfgOf State.reset.ddr State.reset.pdata State.reset.exrom State.reset.game ∧
    (restoreSnapshot (takeSnapshot State.reset) State.reset).cfg = 13 := by decide

end Sys2Proof.Tests
end

section
/-! SUPPORT. Single flags of `P` after a write (spec/10_state.md rules R10, R30, R31), and the two flags that no computation
of the instruction set changes. -/

-- One thread, as in the test file: a check of the joined text starts no new ones past the memory limit.
set_option Elab.async false

namespace Sys2Proof.Machine

/-- A flag's mask has that flag's bit and no other. -/
theorem getLsbD_mask (f g : Flag) : f.mask.getLsbD g.bit = decide (g = f) := by
  cases f <;> cases g <;> rfl

/-- Reading a flag after a flag write (rule R10). -/
theorem flag_setFlag (p : Byte) (f g : Flag) (on : Bool) :
    flag (setFlag p f on) g = if g = f then on else flag p g := by
  have hlt : g.bit < 8 := by cases g <;> decide
  cases on with
  | false =>
    show (p &&& ~~~f.mask).getLsbD g.bit = _
    rw [BitVec.getLsbD_and, BitVec.getLsbD_not, getLsbD_mask]
    by_cases h : g = f <;> simp [h, hlt, flag]
  | true =>
    show (p ||| f.mask).getLsbD g.bit = _
    rw [BitVec.getLsbD_or, getLsbD_mask]
    by_cases h : g = f <;> simp [h, flag]

@[simp] theorem flag_forceUB_u (p : Byte) : flag (forceUB p) .u = true := by simp [flag, forceUB, Flag.bit]
@[simp] theorem flag_forceUB_b (p : Byte) : flag (forceUB p) .b = true := by simp [flag, forceUB, Flag.bit]

/-- `U` and `B` of `q` are those of `p` (rule R31). -/
structure KeepsUB (p q : Byte) : Prop where
  unused : flag q .u = flag p .u
  brk : flag q .b = flag p .b

namespace KeepsUB

variable {p q : Byte}

theorem refl (p : Byte) : KeepsUB p p := ⟨rfl, rfl⟩

/-- A write of a flag other than `U` and `B` keeps both. -/
theorem setFlag (h : KeepsUB p q) (f : Flag) (on : Bool) (hf : f ≠ .u ∧ f ≠ .b := by decide) :
    KeepsUB p (setFlag q f on) :=
  ⟨by rw [flag_setFlag, if_neg hf.1.symm, h.unused], by rw [flag_setFlag, if_neg hf.2.symm, h.brk]⟩

/-- `set_nz` (rule R280). -/
theorem setNZ (h : KeepsUB p q) (v : Byte) : KeepsUB p (setNZ q v) := (h.setFlag .n _).setFlag .z _

/-- `adc8` (rule R281), in both modes. -/
theorem adc8 (h : KeepsUB p q) (a v : Byte) : KeepsUB p (adc8 q a v).2 := by
  unfold Machine.adc8
  split
  · exact (((h.setFlag .z _).setFlag .n _).setFlag .v _).setFlag .c _
  · exact ((h.setFlag .v _).setFlag .c _).setNZ _

/-- `sbc8` (rule R282). -/
theorem sbc8 (h : KeepsUB p q) (a v : Byte) : KeepsUB p (sbc8 q a v).2 :=
  ((h.setFlag .v _).setFlag .c _).setNZ _

/-- `cmp8` (rule R283). -/
theorem cmp8 (h : KeepsUB p q) (r v : Byte) : KeepsUB p (cmp8 q r v) := (h.setFlag .c _).setNZ _

/-- BIT (rule R292). -/
theorem bitTest (h : KeepsUB p q) (a v : Byte) : KeepsUB p (bitTest q a v) :=
  ((h.setFlag .z _).setFlag .n _).setFlag .v _

/-- ARR (rule R380), in both modes. -/
theorem arr8 (h : KeepsUB p q) (t : Byte) : KeepsUB p (arr8 q t).2 := by
  unfold Machine.arr8
  split
  · have hv := ((h.setFlag .n (flag q .c)).setFlag .z
      ((t >>> 1) ||| (if flag q .c then 0x80 else 0x00) = 0x00)).setFlag .v
      ((t ^^^ ((t >>> 1) ||| (if flag q .c then 0x80 else 0x00))).getLsbD 6)
    unfold arrDecimal
    dsimp only
    split
    · exact hv.setFlag .c true
    · exact hv.setFlag .c false
  · exact ((h.setNZ _).setFlag .c _).setFlag .v _

/-- SBX (rule R383). -/
theorem sbx8 (h : KeepsUB p q) (ax v : Byte) : KeepsUB p (sbx8 q ax v).2 := (h.setFlag .c _).setNZ _

/-- A shift or rotate on `A` or on the memory operand (rules R300 to R307). -/
theorem shift {f : Byte → Byte → Byte × Byte} (hf : ∀ q v, KeepsUB q (f q v).2) (c : Cpu) :
    KeepsUB c.p (if modeOf c.ir = .acc then shiftA f c else shiftD f c).p := by
  split
  · exact (hf c.p c.a).setNZ _
  · exact (hf c.p c.d).setNZ _

end KeepsUB

/-- No behaviour that an opcode selects changes `U` or `B` (rules R31, R176). -/
theorem doOp_keepsUB (c : Cpu) : KeepsUB c.p (doOp c).p := by
  have h := KeepsUB.refl c.p
  have hcarry : ∀ q on, KeepsUB q (setFlag q .c on) := fun q on => (KeepsUB.refl q).setFlag .c on
  unfold doOp
  cases mnemonicOf c.ir with
  | lda | ldx | ldy | tax | tay | txa | tya | tsx | ora | and | eor | inc | dec | inx | iny | dex | dey | pla | lax
  | ane | lxa | las => exact h.setNZ _
  | adc => exact h.adc8 _ _
  | sbc | usbc | isc => exact h.sbc8 _ _
  | cmp | cpx | cpy | dcp => exact h.cmp8 _ _
  | bit => exact h.bitTest _ _
  | asl | lsr | rol | ror => exact .shift (fun q _ => hcarry q _) c
  | slo | rla | sre | alr => exact (hcarry _ _).setNZ _
  | rra => exact (hcarry _ _).adc8 _ _
  | anc => exact (h.setNZ _).setFlag .c _
  | arr => exact h.arr8 _
  | sbx => exact h.sbx8 _ _
  | clc => exact h.setFlag .c false
  | sec => exact h.setFlag .c true
  | cld => exact h.setFlag .d false
  | sed => exact h.setFlag .d true
  | clv => exact h.setFlag .v false
  | txs | nop | sta | stx | sty | sax | sha | shx | shy | tas | jmp | jsr | rts | rti | brk | jam | bpl | bmi | bvc | bvs
  | bcc | bcs | bne | beq | pha | php | plp | cli | sei => exact h

/-- No behaviour that an opcode selects leaves the stack page (rules R26, R176). -/
theorem hi_doOp_sp (c : Cpu) : hi (doOp c).sp = hi c.sp := by
  unfold doOp
  by_cases h : modeOf c.ir = .acc
  · simp only [h, if_true]
    cases mnemonicOf c.ir with
    | txs | las => exact hi_setLo _ _
    | _ => rfl
  · simp only [h, if_false]
    cases mnemonicOf c.ir with
    | txs | las => exact hi_setLo _ _
    | _ => rfl

end Sys2Proof.Machine
end

section
/-! SUPPORT. The invariants of one engine (spec/10_state.md rules R26, R27, R31) under the tags, the tick, the setters and the
resets. `Cpu.Inv` speaks of the high halves of `SP` and `ZPA` and of two flags; what keeps these keeps it. -/

set_option Elab.async false

namespace Sys2Proof.Machine

/-- What keeps both page bytes and the flags `U` and `B` keeps the engine's invariants. -/
theorem Cpu.Inv.congr {c e : Cpu} (h : c.Inv) (hsp : hi e.sp = hi c.sp) (hz : hi e.zpa = hi c.zpa)
    (hp : KeepsUB c.p e.p) : e.Inv :=
  ⟨hsp.trans h.stackPage, hz.trans h.zeroPage, hp.unused.trans h.unusedSet, hp.brk.trans h.breakSet⟩

/-- A change of other cells keeps the engine's invariants. -/
theorem Cpu.Inv.congr_eq {c e : Cpu} (h : c.Inv) (hsp : e.sp = c.sp) (hz : e.zpa = c.zpa) (hp : e.p = c.p) : e.Inv :=
  h.congr (by rw [hsp]) (by rw [hz]) (by rw [hp]; exact .refl _)

/-- An engine whose `P` has been forced by rule R31 needs only its page bytes right. -/
theorem Cpu.Inv.of_forceUB {c : Cpu} {p : Byte} (hsp : hi c.sp = 0x01) (hz : hi c.zpa = 0x00) (hp : c.p = forceUB p) :
    c.Inv := ⟨hsp, hz, by rw [hp, flag_forceUB_u], by rw [hp, flag_forceUB_b]⟩

/-! The behaviours and the tags (spec/40_engine.md rules R175 to R206). -/

theorem doOp_inv {c : Cpu} (h : c.Inv) : (doOp c).Inv :=
  h.congr (hi_doOp_sp c) (by rw [doOp_zpa]) (doOp_keepsUB c)

theorem stReg_inv {c : Cpu} (h : c.Inv) : (stReg c).Inv := by
  unfold stReg
  split
  · exact h.congr_eq rfl rfl rfl
  · exact h

theorem stSh_inv {c : Cpu} (h : c.Inv) : (stSh c).Inv := by
  cases hr : shRegister c with
  | none => unfold stSh; rw [hr]; exact h
  | some r =>
    rw [stSh_eq hr]
    refine h.congr ?_ rfl (.refl _)
    split
    · exact hi_setLo _ _
    · rfl

theorem absIndex_inv {c : Cpu} (h : c.Inv) (i : Byte) : (absIndex i c).Inv := by
  unfold absIndex
  dsimp only
  split <;> exact h.congr_eq rfl rfl rfl

theorem branchEntry_inv {c : Cpu} (h : c.Inv) (taken : Bool) : (branchEntry taken c).Inv := by
  unfold branchEntry
  dsimp only
  split
  · split <;> exact h.congr_eq rfl rfl rfl
  · exact h.congr_eq rfl rfl rfl

/-- A write of the low half of `SP` stays in the stack page (rule R26). -/
theorem setS_inv {c : Cpu} (h : c.Inv) (b : Byte) : (c.setS b).Inv := h.congr (hi_setLo _ _) rfl (.refl _)

/-- A write of the low half of `ZPA` stays in page 0 (rule R27). -/
theorem setZpaLo_inv {c : Cpu} (h : c.Inv) (b : Byte) : ({ c with zpa := setLo c.zpa b }).Inv :=
  h.congr rfl (hi_setLo _ _) (.refl _)

/-- A write of the interrupt mask. -/
theorem setFlagI_inv {c : Cpu} (h : c.Inv) (on : Bool) : (c.setFlag .i on).Inv :=
  h.congr rfl rfl ((KeepsUB.refl _).setFlag .i on)

/-- The dispatch tags keep the invariants when their own flag write does (rule R201). -/
theorem dispatchCommon_inv {c : Cpu} (start : Byte → Cursor) (poll : Bool) {fix : Cpu → Cpu} (h : (fix c).Inv) :
    (dispatchCommon start poll fix c).Inv :=
  h.congr_eq (by simp only [dispatchCommon, apply_ite Cpu.sp, ite_self])
    (by simp only [dispatchCommon, apply_ite Cpu.zpa, ite_self]) (by simp only [dispatchCommon, apply_ite Cpu.p, ite_self])

/-- `rti` forces `U` and `B` in a `P` just pulled, whatever it holds (rules R31, R196). -/
theorem rtiTag_inv {c : Cpu} (hsp : hi c.sp = 0x01) (hz : hi c.zpa = 0x00) : (rtiTag c).Inv :=
  .of_forceUB (p := c.p) ((hi_setLo _ _).trans hsp) hz rfl

/-- Every tag's action keeps the engine's invariants. -/
theorem tagAction_inv (t : Tag) {c : Cpu} (h : c.Inv) : (tagAction t c).Inv := by
  cases t with
  | nmop => exact h
  | doOp => exact doOp_inv h
  | stReg => exact stReg_inv h
  | stSh => exact stSh_inv h
  | zpX | zpY | incZpa => exact setZpaLo_inv h _
  | zpXSt | zpYSt => exact stReg_inv (setZpaLo_inv h _)
  | absX | absY => exact absIndex_inv h _
  | bpl | bmi | bvc | bvs | bcc | bcs | bne | beq => exact branchEntry_inv h _
  | absXNs | absYNs | jmpAbs | incA1l | jmpInd | incA4 | brPcl | brFix | holdInts | pha | php | hlt =>
    exact h.congr_eq rfl rfl rfl
  | decSp | incSp => exact setS_inv h _
  | rti => exact rtiTag_inv h.stackPage h.zeroPage
  | brk => exact h.congr_eq (by rw [tagAction, brkTag_eq]) (by rw [tagAction, brkTag_eq]) (by rw [tagAction, brkTag_eq])
  | brkP => exact h.congr (hi_setLo _ _) rfl (.refl _)
  | brkVec =>
    rw [tagAction, brkVec_eq]
    exact h.congr (hi_setLo _ _) rfl ((KeepsUB.refl _).setFlag .i true)
  | resetVec => exact h.congr (hi_setLo _ _) rfl ((KeepsUB.refl _).setFlag .i true)
  | dispatch | dispatchBrk => exact dispatchCommon_inv _ _ h
  | dispatchCli =>
    refine dispatchCommon_inv _ _ (fix := fun c => c.setFlag .i false) ?_
    exact setFlagI_inv h false
  | dispatchSei =>
    refine dispatchCommon_inv _ _ (fix := fun c => c.setFlag .i true) ?_
    exact setFlagI_inv h true
  | dispatchPlp =>
    refine dispatchCommon_inv _ _ (fix := fun c => { c with p := forceUB c.d }) ?_
    exact .of_forceUB (p := c.d) h.stackPage h.zeroPage rfl

/-! The tick (rule R173). -/

/-- The tick keeps the invariants when the tag of its record does. -/
theorem tick_inv_of_tag {c : Cpu} (h : (tagAction (romAt c.mcp).tag (retire (romAt c.mcp) c)).Inv) : (tick c).Inv := by
  unfold tick
  dsimp only
  split
  · exact h
  · exact h.congr_eq rfl rfl rfl

/-- The tick after a cycle that read nothing into the engine. -/
theorem tick_inv {c : Cpu} (h : c.Inv) : (tick c).Inv := tick_inv_of_tag (tagAction_inv _ (h.congr_eq rfl rfl rfl))

@[simp] theorem setCell_mcp (c : Cpu) (r : Cell) (b : Byte) : (c.setCell r b).mcp = c.mcp := by cases r <;> rfl

/-- No record reads into `SPH` or `ZPAH`, and the one that reads into `P` is that of RTI (rules R26, R27, R31, R144). -/
theorem romAt_read_cell : ∀ m : Cursor, (romAt m).dr ≠ .sph ∧ (romAt m).dr ≠ .zpah ∧
    ((romAt m).rw = .read → (romAt m).dr = .p → (romAt m).tag = .rti) := by decide +kernel

/-- A read into a cell other than `SPH`, `ZPAH` and `P` keeps the invariants. -/
theorem setCell_inv {c : Cpu} (h : c.Inv) {r : Cell} (b : Byte) (hs : r ≠ .sph) (hz : r ≠ .zpah) (hp : r ≠ .p) :
    (c.setCell r b).Inv := by
  cases r with
  | sph => exact absurd rfl hs
  | zpah => exact absurd rfl hz
  | p => exact absurd rfl hp
  | spl => exact h.congr (hi_setLo _ _) rfl (.refl _)
  | zpal => exact h.congr rfl (hi_setLo _ _) (.refl _)
  | _ => exact h.congr_eq rfl rfl rfl

/-- A cycle that reads keeps the engine's invariants: `P` is read by RTI only, whose tag forces `U` and `B`. -/
theorem tick_read_inv {c : Cpu} (h : c.Inv) (hr : (romAt c.mcp).rw = .read) (b : Byte) :
    (tick (c.setCell (romAt c.mcp).dr b)).Inv := by
  obtain ⟨hs, hz, hrti⟩ := romAt_read_cell c.mcp
  by_cases hp : (romAt c.mcp).dr = .p
  · refine tick_inv_of_tag ?_
    rw [setCell_mcp, hrti hr hp, hp]
    exact rtiTag_inv h.stackPage h.zeroPage
  · exact tick_inv (setCell_inv h b hs hz hp)

/-- Both setters keep the invariants (rules R420, R421). -/
theorem setLevels_inv {c : Cpu} (h : c.Inv) (irq nmi : Bool) : (setLevels irq nmi c).Inv := by
  rw [setLevels, setNmi_eq, setIrq_frame]
  exact h.congr_eq rfl rfl rfl

/-! The resets and `resume` (spec/70_reset_and_hazards.md rules R470, R471, spec/60_exceptions.md rule R451). -/

/-- The flags of the warm reset's `P` (rule R471). -/
theorem flag_warmResetCpu (c : Cpu) (f : Flag) :
    flag (warmResetCpu c).p f = if f = .b ∨ f = .u ∨ f = .i then true else flag c.p f := by
  show flag (setFlag (setFlag (setFlag c.p .i true) .u true) .b true) f = _
  rw [flag_setFlag, flag_setFlag, flag_setFlag]
  cases f <;> rfl

/-- The warm reset's engine in one record update (rule R471). -/
theorem warmResetCpu_eq (c : Cpu) : warmResetCpu c =
    { c with p := c.p ||| 0x34, nmiT := .idle, irqT := .idle, brkSrcs := 0, mcp := 208 } := by
  have hp : setFlag (setFlag (setFlag c.p .i true) .u true) .b true = c.p ||| 0x34 := by
    simp [setFlag, Flag.mask, Flag.bit, BitVec.or_assoc]
  unfold warmResetCpu Cpu.setFlag
  rw [hp]
  rfl

/-- A warm reset sets `U` and `B` and leaves both pages, so it needs only these right before it. -/
theorem warmResetCpu_inv {c : Cpu} (hsp : hi c.sp = 0x01) (hz : hi c.zpa = 0x00) : (warmResetCpu c).Inv :=
  ⟨hsp, hz, by simp [flag_warmResetCpu], by simp [flag_warmResetCpu]⟩

/-- The cold reset's engine has its page bytes right (rules R26, R27, R470). -/
theorem powerOnCpu_pages (n base : Nat) : hi (powerOnCpu n base).sp = 0x01 ∧ hi (powerOnCpu n base).zpa = 0x00 :=
  ⟨hi_pair _ _, show hi (0x0000 : Addr) = 0x00 by decide⟩

theorem resumeCpu_inv {c : Cpu} (h : c.Inv) : (resumeCpu c).Inv := by
  unfold resumeCpu
  split
  · exact h.congr_eq rfl rfl rfl
  · exact h

/-- The engine after a cold reset (rule R55). -/
theorem Cpu.reset_inv : Cpu.reset.Inv := ⟨rfl, rfl, rfl, rfl⟩

end Sys2Proof.Machine
end

section
/-! SUPPORT. What one system cycle can change of the state, said once (spec/40_engine.md rules R172, R174), and what a run of
cycles and a step come to. -/

set_option Elab.async false

namespace Sys2Proof.Machine

/-! The port and the configuration (spec/20_memory.md rules R92, R97). -/

/-- `CFG` is its function of the port and the cartridge lines (rule R47). -/
def State.CfgFresh (s : State) : Prop := s.cfg = cfgOf s.ddr s.pdata s.exrom s.game

/-- A bus write leaves the cartridge lines alone. -/
theorem busWrite_lines (s : State) (a : Addr) (v : Byte) :
    (busWrite s a v).exrom = s.exrom ∧ (busWrite s a v).game = s.game := by
  rcases busWrite_cases s a v with ⟨-, e⟩ | ⟨-, e⟩ | ⟨-, -, e⟩ | ⟨-, -, e⟩ <;> rw [e] <;> exact ⟨rfl, rfl⟩

/-- A write of the port recomputes `CFG`; no other write changes what it depends on. -/
theorem busWrite_cfgFresh {s : State} (h : s.CfgFresh) (a : Addr) (v : Byte) : (busWrite s a v).CfgFresh := by
  rcases busWrite_cases s a v with ⟨-, e⟩ | ⟨-, e⟩ | ⟨-, -, e⟩ | ⟨-, -, e⟩ <;> rw [e]
  · rfl
  · rfl
  · exact h
  · exact h

/-- The queue does not matter to a bus write. -/
theorem busWrite_withInputs (s : State) (q : List Event) (a : Addr) (v : Byte) :
    busWrite { s with inputs := q } a v = { busWrite s a v with inputs := q } := by
  unfold busWrite portWrite
  dsimp only
  split
  · split <;> rfl
  · cases regionOf s.cfg .write a <;> rfl

/-! The cycle of the primary system. -/

/-- A cycle whose record reads changes the engine and the record of bus events only. -/
theorem cpuCycle_of_read (feed : List Byte) (c : CycleInput) {s : State} (h : (romAt s.cpu.mcp).rw = .read) :
    ∃ b tr, cpuCycle feed c s = { s with cpu := tick (s.cpu.setCell (romAt s.cpu.mcp).dr b), trace := tr } := by
  unfold cpuCycle transact
  dsimp only
  rw [h]
  exact ⟨_, _, rfl⟩

/-- A cycle whose record writes is a bus write and the tick. -/
theorem cpuCycle_of_write (feed : List Byte) (c : CycleInput) {s : State} (h : (romAt s.cpu.mcp).rw = .write) :
    ∃ a v tr, cpuCycle feed c s = { busWrite s a v with cpu := tick s.cpu, trace := tr } := by
  unfold cpuCycle transact
  dsimp only
  rw [h]
  exact ⟨_, _, _, by rw [busWrite_cpu]⟩

/-- The queue does not matter to the CPU's cycle. -/
theorem cpuCycle_withInputs (feed : List Byte) (c : CycleInput) (s : State) (q : List Event) :
    cpuCycle feed c { s with inputs := q } = { cpuCycle feed c s with inputs := q } := by
  unfold cpuCycle transact
  dsimp only
  cases (romAt s.cpu.mcp).rw
  · rfl
  · dsimp only
    rw [busWrite_withInputs]
    rfl

/-- The CPU's cycle leaves the cartridge lines and the secondary system alone. -/
theorem cpuCycle_frame (feed : List Byte) (c : CycleInput) (s : State) :
    (cpuCycle feed c s).exrom = s.exrom ∧ (cpuCycle feed c s).game = s.game ∧ (cpuCycle feed c s).drive = s.drive := by
  cases hr : (romAt s.cpu.mcp).rw with
  | read =>
    obtain ⟨b, tr, e⟩ := cpuCycle_of_read feed c hr
    rw [e]
    exact ⟨rfl, rfl, rfl⟩
  | write =>
    obtain ⟨a, v, tr, e⟩ := cpuCycle_of_write feed c hr
    rw [e]
    obtain ⟨hexrom, hgame⟩ := busWrite_lines s a v
    exact ⟨hexrom, hgame, busWrite_drive s a v⟩

/-- The state after step 2 of the coming cycle (rule R172): withheld, or the transaction and the tick. -/
def State.accessed (s : State) (feed : List Byte) : State :=
  if (nextInput s).bw then withheldCycle (nextInput s) s else cpuCycle feed (nextInput s) s

theorem accessed_of_withheld {s : State} (h : (nextInput s).bw = true) (feed : List Byte) :
    s.accessed feed = withheldCycle (nextInput s) s := if_pos h

theorem accessed_of_not_withheld {s : State} (h : (nextInput s).bw = false) (feed : List Byte) :
    s.accessed feed = cpuCycle feed (nextInput s) s := if_neg (by simp [h])

/-- Step 2 leaves the cartridge lines and the secondary system alone. -/
theorem accessed_frame (s : State) (feed : List Byte) :
    (s.accessed feed).exrom = s.exrom ∧ (s.accessed feed).game = s.game ∧ (s.accessed feed).drive = s.drive := by
  unfold State.accessed
  split
  · exact ⟨rfl, rfl, rfl⟩
  · exact cpuCycle_frame _ _ _

/-- The engine after step 2. -/
theorem accessed_cpu (s : State) (feed : List Byte) : (s.accessed feed).cpu = s.ticked feed := by
  unfold State.accessed State.ticked
  split <;> rfl

/-- A mode notification leaves all but the cartridge lines and the configuration alone (rule R46). -/
theorem notifyCart_frame (s : State) (l : Option CartLines) :
    notifyCart s l = { s with exrom := (notifyCart s l).exrom, game := (notifyCart s l).game,
                              cfg := (notifyCart s l).cfg } := by
  cases l <;> rfl

/-- A notification recomputes `CFG` from its lines and the port as it stands (rules R46, R97). -/
theorem notifyCart_cfgFresh {s : State} (h : s.CfgFresh) (l : Option CartLines) : (notifyCart s l).CfgFresh := by
  cases l with
  | none => exact h
  | some l => rfl

/-- The secondary step in one record update (rule R456). -/
theorem secondaryStep_frame (c : CycleInput) (s : State) :
    secondaryStep c s = { s with secCnt := (secondaryStep c s).secCnt, drive := (secondaryStep c s).drive } := by
  unfold secondaryStep
  split <;> rfl

/-- The secondary system runs one cycle of its own, or none (rule R456). -/
theorem secondaryStep_drive (c : CycleInput) (s : State) :
    (secondaryStep c s).drive = driveCycle c s.drive ∨ (secondaryStep c s).drive = s.drive := by
  unfold secondaryStep
  split
  · exact .inl rfl
  · exact .inr rfl

/-- Memory, port, cartridge lines, configuration and bus events of a system cycle come from its step 2 and the notification:
nothing after these touches them (rule R172). -/
theorem systemCycle_frame (feed : List Byte) (s : State) :
    systemCycle feed s =
      { notifyCart (s.accessed feed) (nextInput s).cart with
          cpu := (systemCycle feed s).cpu, inputs := (systemCycle feed s).inputs, secCnt := (systemCycle feed s).secCnt,
          drive := (systemCycle feed s).drive, clock := (systemCycle feed s).clock } := by
  unfold systemCycle State.accessed
  dsimp only
  rw [secondaryStep_frame]
  cases (nextInput s).bw with
  | true => cases (nextInput s).cart <;> rfl
  | false =>
    simp only [Bool.false_eq_true, if_false, cpuCycle_withInputs]
    cases (nextInput s).cart <;> rfl

@[simp] theorem notifyCart_drive (s : State) (l : Option CartLines) : (notifyCart s l).drive = s.drive := by
  rw [notifyCart_frame]

/-- The secondary system after a system cycle (rule R456). -/
theorem systemCycle_drive (feed : List Byte) (s : State) :
    (systemCycle feed s).drive = driveCycle (nextInput s) s.drive ∨ (systemCycle feed s).drive = s.drive := by
  have hstep : ∀ u : State, u.drive = s.drive →
      (secondaryStep (nextInput s) u).drive = driveCycle (nextInput s) s.drive ∨
        (secondaryStep (nextInput s) u).drive = s.drive := fun u hu => hu ▸ secondaryStep_drive _ u
  refine hstep _ ?_
  dsimp only
  rw [notifyCart_drive]
  split
  · rfl
  · exact (cpuCycle_frame _ _ _).2.2

/-! A step is one run of cycles (rule R231). -/

/-- A property that every system cycle and every host operation keeps holds after any run of cycles. -/
theorem runCycles_keeps {Q : State → Prop} (hcycle : ∀ feed s, Q s → Q (systemCycle feed s))
    (hhost : ∀ op rest s, Q s → Q (applyHost op { s with inputs := rest })) :
    ∀ (fuel : Nat) (feed : List Byte) (s : State), Q s → Q (runCycles fuel feed s) := by
  intro fuel
  induction fuel with
  | zero => exact fun _ _ h => h
  | succ fuel ih =>
    intro feed s h
    rw [runCycles]
    split
    · exact hhost _ _ s h
    · dsimp only
      split
      · exact hcycle feed s h
      · exact ih _ _ (hcycle feed s h)

/-- Every entry of a table of the decoder is an instruction that a program can write, whatever its operand bytes. -/
def RowWellFormed (row : List (Byte → Byte → Instr)) : Prop :=
  ∀ b1 b2, row.all (fun f => (f b1 b2).wellFormed) = true

theorem RowWellFormed.append {r q : List (Byte → Byte → Instr)} (hr : RowWellFormed r) (hq : RowWellFormed q) :
    RowWellFormed (r ++ q) := fun b1 b2 => by rw [List.all_append, hr, hq]; rfl

/-- No opcode decodes to the reset row (rules R137, R146), row by row of the opcode matrix. -/
theorem decodeRows_wellFormed : RowWellFormed decodeRows := by
  unfold decodeRows
  repeat' apply RowWellFormed.append
  all_goals exact fun _ _ => rfl

/-- What the decoder answers is an instruction that a program can write (rules R137, R146). -/
theorem decodeForm_wellFormed (op b1 b2 : Byte) : (decodeForm op b1 b2).wellFormed = true := by
  unfold decodeForm
  rw [List.getD_eq_getElem?_getD]
  cases hf : decodeRows[op.toNat]? with
  | none => rfl
  | some f => exact List.all_eq_true.mp (decodeRows_wellFormed b1 b2) f (List.mem_of_getElem? hf)

/-- Every step is a run of system cycles from the state as it is. -/
theorem step_run (s : State) : ∃ feed, step s = .next (runSequence feed s) := by
  unfold step
  by_cases hb : isBoundary s.cpu.mcp = true
  · rw [if_pos hb]
    exact ⟨_, exec_boundary (decodeForm_wellFormed _ _ _) hb⟩
  · rw [if_neg hb]
    by_cases hr : s.cpu.mcp = resetStart
    · have hs : { s with cpu := { s.cpu with mcp := resetStart } } = s := by rw [← hr]
      rw [if_pos hr]
      refine ⟨[], ?_⟩
      show Host.Outcome.next (runSequence [] { s with cpu := { s.cpu with mcp := resetStart } }) = _
      rw [hs]
    · rw [if_neg hr]
      exact ⟨[], rfl⟩

/-- A step that begins with a queued host operation is that operation (rules R451, R470, R471, R475). -/
theorem step_host {s : State} {op : HostOp} {rest : List Event} (h : s.inputs = .host op :: rest) :
    step s = .next (applyHost op { clearTrace s with inputs := rest }) := by
  obtain ⟨feed, e⟩ := step_run s
  rw [e, runSequence_host feed h]

end Sys2Proof.Machine
end

section
/-! SUPPORT. The invariants of the block (spec/10_state.md rules R26, R27, R31, R47, R50) under a system cycle, a host operation
and a step. -/

set_option Elab.async false

namespace Sys2Proof.Machine

/-- A change of the queue, the clock, the tick counter and the bus events keeps the invariants. -/
theorem State.Inv.congr {s t : State} (h : s.Inv) (hcpu : t.cpu = s.cpu) (hdrive : t.drive.cpu = s.drive.cpu)
    (hcfg : t.CfgFresh) (hram : t.ram = s.ram) (hdriveRam : t.drive.ram = s.drive.ram) : t.Inv :=
  ⟨hcpu ▸ h.primary, hdrive ▸ h.secondary, hcfg, hram ▸ h.ramForm, hdriveRam ▸ h.driveRamForm⟩

/-- The invariants of the secondary system alone. -/
structure Drive.Inv (d : Drive) : Prop where
  engine : d.cpu.Inv
  ramForm : d.ram.wf = true

theorem State.Inv.drive {s : State} (h : s.Inv) : s.drive.Inv := ⟨h.secondary, h.driveRamForm⟩

/-- Another primary engine. -/
theorem State.Inv.withCpu {s : State} (h : s.Inv) {c : Cpu} (hc : c.Inv) : State.Inv { s with cpu := c } :=
  ⟨hc, h.secondary, h.configuration, h.ramForm, h.driveRamForm⟩

/-- Another secondary system. -/
theorem State.Inv.withDrive {s : State} (h : s.Inv) {d : Drive} (hd : d.Inv) : State.Inv { s with drive := d } :=
  ⟨h.primary, hd.engine, h.configuration, h.ramForm, hd.ramForm⟩

/-! One cycle of the secondary system (spec/60_exceptions.md rule R457). -/

@[simp] theorem driveWrite_cpu (d : Drive) (a : Addr) (v : Byte) : (driveWrite d a v).cpu = d.cpu := by
  unfold driveWrite
  cases driveKind a <;> rfl

theorem driveCycle_inv {d : Drive} (h : d.Inv) (c : CycleInput) : (driveCycle c d).Inv := by
  unfold driveCycle
  dsimp only
  cases hr : (romAt d.cpu.mcp).rw with
  | read => exact ⟨setLevels_inv (tick_read_inv h.engine hr _) _ _, h.ramForm⟩
  | write =>
    refine ⟨?_, driveWrite_ram_wf h.ramForm _ _⟩
    dsimp only
    rw [driveWrite_cpu]
    exact setLevels_inv (tick_inv h.engine) _ _

/-! Step 2 of the cycle. -/

/-- What the CPU's cycle keeps of the primary system: the engine's invariants, `CFG`, the form of RAM. -/
theorem cpuCycle_inv (feed : List Byte) (c : CycleInput) {s : State} (hc : s.cpu.Inv) (hf : s.CfgFresh)
    (hr : s.ram.wf = true) :
    (cpuCycle feed c s).cpu.Inv ∧ (cpuCycle feed c s).CfgFresh ∧ (cpuCycle feed c s).ram.wf = true := by
  cases hrw : (romAt s.cpu.mcp).rw with
  | read =>
    obtain ⟨b, tr, e⟩ := cpuCycle_of_read feed c hrw
    rw [e]
    exact ⟨tick_read_inv hc hrw b, hf, hr⟩
  | write =>
    obtain ⟨a, v, tr, e⟩ := cpuCycle_of_write feed c hrw
    rw [e]
    exact ⟨tick_inv hc, busWrite_cfgFresh hf a v, busWrite_ram_wf hr a v⟩

/-- The write of a withholding master keeps the form of RAM (rules R84, R174). -/
theorem withheldCycle_ram_wf {s : State} (h : s.ram.wf = true) (c : CycleInput) : (withheldCycle c s).ram.wf = true := by
  unfold withheldCycle
  dsimp only
  split
  · exact Memory.write_wf h _ _
  · exact h

/-- Step 2 of the cycle, withheld or not, keeps the invariants of the primary system. -/
theorem accessed_inv {s : State} (h : s.Inv) (feed : List Byte) :
    (s.accessed feed).cpu.Inv ∧ (s.accessed feed).CfgFresh ∧ (s.accessed feed).ram.wf = true := by
  unfold State.accessed
  split
  · exact ⟨h.primary, h.configuration, withheldCycle_ram_wf h.ramForm _⟩
  · exact cpuCycle_inv feed _ h.primary h.configuration h.ramForm

/-! The system cycle, the host operations, the step. -/

/-- Every system cycle keeps the invariants, whatever its inputs. -/
theorem systemCycle_inv (feed : List Byte) {s : State} (h : s.Inv) : (systemCycle feed s).Inv := by
  obtain ⟨hcpu, hcfg, hram⟩ := accessed_inv h feed
  have hdrive : (systemCycle feed s).drive.Inv := by
    rcases systemCycle_drive feed s with e | e <;> rw [e]
    · exact driveCycle_inv h.drive _
    · exact h.drive
  refine ⟨?_, hdrive.engine, ?_, ?_, hdrive.ramForm⟩
  · rw [systemCycle_cpu, ← accessed_cpu]
    exact setLevels_inv hcpu _ _
  · rw [systemCycle_frame]
    exact notifyCart_cfgFresh hcfg _
  · rw [systemCycle_frame, notifyCart_frame]
    exact hram

/-- A recompute of `CFG` makes it right, whatever it was (rule R97). -/
theorem recompute_inv {s : State} (hc : s.cpu.Inv) (hd : s.drive.Inv) (hr : s.ram.wf = true) : (recompute s).Inv :=
  ⟨hc, hd.engine, rfl, hr, hd.ramForm⟩

/-- A warm reset needs only the page bytes right before it (rule R471). -/
theorem warmReset_inv {s : State} (hsp : hi s.cpu.sp = 0x01) (hz : hi s.cpu.zpa = 0x00) (hd : s.drive.Inv)
    (hr : s.ram.wf = true) (cart : Option CartLines) : (warmReset cart s).Inv := by
  have h := recompute_inv (s := { s with cpu := warmResetCpu s.cpu, ddr := 0x00, pdata := 0x00 })
    (warmResetCpu_inv hsp hz) hd hr
  refine h.congr (notifyCart_cpu _ _) ?_ (notifyCart_cfgFresh h.configuration _) ?_ ?_ <;>
    rw [warmReset, notifyCart_frame]

/-- Every host operation keeps the invariants (rules R451, R470, R471, R475). -/
theorem hostEffect_inv (op : HostOp) {s : State} (h : s.Inv) : (hostEffect op s).Inv := by
  cases op with
  | coldReset cart =>
    obtain ⟨hsp, hz⟩ := powerOnCpu_pages s.clock 0
    exact warmReset_inv (s := { s with cpu := powerOnCpu s.clock 0, secCnt := 0, exrom := true, game := true,
                                       ram := Memory.ofPairs (Config.powerOnRam s.clock) })
      hsp hz h.drive (Memory.ofPairs_wf _) cart
  | warmReset cart => exact warmReset_inv h.primary.stackPage h.primary.zeroPage h.drive h.ramForm cart
  | resume => exact h.withCpu (resumeCpu_inv h.primary)
  | driveColdReset =>
    obtain ⟨hsp, hz⟩ := powerOnCpu_pages s.clock 20
    exact h.withDrive ⟨warmResetCpu_inv hsp hz, Memory.ofPairs_wf _⟩
  | driveWarmReset =>
    exact h.withDrive ⟨warmResetCpu_inv h.secondary.stackPage h.secondary.zeroPage, h.driveRamForm⟩
  | driveResume => exact h.withDrive ⟨resumeCpu_inv h.secondary, h.driveRamForm⟩

/-- Every run of cycles keeps the invariants. -/
theorem runSequence_inv (feed : List Byte) {s : State} (h : s.Inv) : (runSequence feed s).Inv := by
  refine runCycles_keeps (Q := State.Inv) (fun feed _ h => systemCycle_inv feed h) (fun op rest s h => ?_) _ _ _ ?_
  · have hq : State.Inv { s with inputs := rest } := h.congr rfl rfl h.configuration rfl rfl
    have ho := hostEffect_inv op hq
    exact ho.congr rfl rfl ho.configuration rfl rfl
  · exact h.congr rfl rfl h.configuration rfl rfl

/-- Settles O6: every system cycle and every host operation keeps the invariants, and a step is a run of these. -/
theorem stepKeepsInv : Obligations.StepKeepsInv := by
  intro s t h hstep
  obtain ⟨feed, e⟩ := step_run s
  rw [e] at hstep
  injection hstep with ht
  exact ht ▸ runSequence_inv feed h

end Sys2Proof.Machine
end

section
/-! SUPPORT. The byte stores in canonical form as functions of the address (spec/10_state.md rule R50, spec/20_memory.md rule
R80). -/

set_option Elab.async false

namespace Sys2Proof.Machine

/-- The parts of the canonical form of a list that is not empty. -/
theorem canonicalFrom_cons {n b : Nat} {v : Byte} {l : List Host.Cell} :
    canonicalFrom n ((b, v) :: l) = true ↔
      n ≤ b ∧ b < 65536 ∧ v ≠ Memory.background ∧ canonicalFrom (b + 1) l = true := by
  simp only [canonicalFrom, Bool.and_eq_true, decide_eq_true_eq, and_assoc]

/-- The byte at the head's address. -/
theorem readCells_head (b : Nat) (v : Byte) (l : List Host.Cell) : readCells b ((b, v) :: l) = v := if_pos rfl

/-- The byte at another address than the head's. -/
theorem readCells_tail {a b : Nat} (h : a ≠ b) (v : Byte) (l : List Host.Cell) :
    readCells a ((b, v) :: l) = readCells a l := if_neg h

/-- A canonical list that reads like one that starts at `b` does not start above `b`. -/
theorem not_canonicalFrom_above {n m b : Nat} {v : Byte} {l k : List Host.Cell}
    (hl : canonicalFrom n ((b, v) :: l) = true) (h : ∀ a < 65536, readCells a ((b, v) :: l) = readCells a k)
    (hm : b < m) : canonicalFrom m k ≠ true := by
  intro hk
  obtain ⟨-, hb, hv, -⟩ := canonicalFrom_cons.mp hl
  exact hv (by rw [← readCells_head b v l, h b hb, readCells_below hk hm])

/-- Two canonical lists that read alike at every address are equal. -/
theorem canonicalFrom_ext {n : Nat} {l k : List Host.Cell} (hl : canonicalFrom n l = true)
    (hk : canonicalFrom n k = true) (h : ∀ a < 65536, readCells a l = readCells a k) : l = k := by
  induction l generalizing n k with
  | nil =>
    cases k with
    | nil => rfl
    | cons q k => exact absurd rfl (not_canonicalFrom_above (m := q.1 + 1) hk (fun a ha => (h a ha).symm) (by omega))
  | cons p l ih =>
    obtain ⟨b, v⟩ := p
    cases k with
    | nil => exact absurd rfl (not_canonicalFrom_above (m := b + 1) hl h (by omega))
    | cons q k =>
      obtain ⟨c, w⟩ := q
      obtain ⟨-, hb, hv, hl'⟩ := canonicalFrom_cons.mp hl
      obtain ⟨-, hc, hw, hk'⟩ := canonicalFrom_cons.mp hk
      have hcb : c ≤ b := by
        by_contra hlt
        exact not_canonicalFrom_above hl h (not_le.mp hlt) (canonicalFrom_cons.mpr ⟨le_refl c, hc, hw, hk'⟩)
      have hbc : b ≤ c := by
        by_contra hlt
        exact not_canonicalFrom_above hk (fun a ha => (h a ha).symm) (not_le.mp hlt)
          (canonicalFrom_cons.mpr ⟨le_refl b, hb, hv, hl'⟩)
      obtain rfl : b = c := le_antisymm hbc hcb
      have hvw : v = w := by simpa [readCells_head] using h b hb
      have htail : l = k := by
        refine ih hl' hk' fun a ha => ?_
        by_cases hab : a = b
        · rw [readCells_below hl' (by omega), readCells_below hk' (by omega)]
        · simpa [readCells_tail hab] using h a ha
      rw [hvw, htail]

/-- Settles O55: the lists of two canonical stores that read alike agree entry by entry. -/
theorem storesThatReadAlikeAreEqual : Obligations.StoresThatReadAlikeAreEqual := by
  intro m n hm hn h
  have hcells : m.cells = n.cells := by
    refine canonicalFrom_ext hm hn fun a ha => ?_
    have := h (BitVec.ofNat 16 a)
    simpa only [Memory.read, BitVec.toNat_ofNat, Nat.mod_eq_of_lt ha] using this
  exact congrArg Memory.mk hcells

end Sys2Proof.Machine
end

section
/-! The statements about the stack: a subroutine call, the returns and the pushes (spec/44_flow.md rules R321 to R323,
spec/45_stack_flags.md rules R350, R351), read off the runs of their micro-op sequences. -/

set_option Elab.async false

namespace Sys2Proof.Machine

/-- A run whose memory side is one bus write changes that byte of RAM only. -/
theorem onlyRamAt_of_busWrite {s t : State} {c : Cpu} {bus : List Transfer} {a : Addr} {v : Byte}
    (h : Ends s t c (busWrite s a v) bus) : OnlyRamAt [a] s t := fun b hb => by
  rw [h.memory.ram]
  exact busWrite_ram_read_ne s v (by simpa using hb)

/-- A run whose memory side is two bus writes changes those bytes of RAM only. -/
theorem onlyRamAt_of_busWrite_busWrite {s t : State} {c : Cpu} {bus : List Transfer} {a a' : Addr} {v v' : Byte}
    (h : Ends s t c (busWrite (busWrite s a v) a' v') bus) : OnlyRamAt [a, a'] s t := fun b hb => by
  obtain ⟨ha, ha'⟩ : b ≠ a ∧ b ≠ a' := by simpa using hb
  rw [h.memory.ram, busWrite_ram_read_ne _ v' ha', busWrite_ram_read_ne s v ha]

/-- Settles O25: the runs of the sequences JSR and RTS. -/
theorem subroutineResult : Obligations.SubroutineResult := by
  refine ⟨fun s addr hs => ?_, fun s ret hs hret => ?_⟩
  · have h := jsr_ends hs (op := 0x20) (addr := addr) (by decide)
    exact ⟨_, exec_boundary rfl hs.boundary, h, onlyRamAt_of_busWrite_busWrite h⟩
  · subst hret
    exact ⟨_, exec_boundary rfl hs.boundary, rts_ends hs (op := 0x60) (by decide)⟩

/-- Settles O26: the run of the sequence RTI. -/
theorem rtiResult : Obligations.RtiResult :=
  fun _ hs => ⟨_, exec_boundary rfl hs.boundary, rti_ends hs (op := 0x40) (by decide)⟩

/-- Settles O27: the runs of the sequences PHA and PHP. -/
theorem pushResult : Obligations.PushResult := by
  refine ⟨fun s hs => ?_, fun s hs => ?_⟩
  · have h := pha_ends hs (op := 0x48) (by decide)
    exact ⟨_, exec_boundary rfl hs.boundary, h, onlyRamAt_of_busWrite h⟩
  · have h := php_ends hs (op := 0x08) (by decide)
    exact ⟨_, exec_boundary rfl hs.boundary, h, onlyRamAt_of_busWrite h⟩

end Sys2Proof.Machine
end

section
/-! The statements about the reset state, the host's resets and the snapshot (spec/10_state.md rules R53, R55,
spec/70_reset_and_hazards.md rules R470 to R475, R491). -/

set_option Elab.async false

namespace Sys2Proof.Machine

/-- Settles O7: the values of `State.reset` as they stand. -/
theorem resetState : Obligations.ResetState :=
  ⟨⟨Cpu.reset_inv, Cpu.reset_inv, by decide, rfl, rfl⟩, by decide⟩

/-- Settles O60: `CFG`, which a snapshot does not carry, is recomputed to what it was. -/
theorem snapshotRestore : Obligations.SnapshotRestore := by
  intro s u hcfg
  have hrestore : restoreSnapshot (takeSnapshot s) u =
      { s with drive := u.drive, inputs := u.inputs, clock := u.clock, trace := u.trace } := by
    unfold restoreSnapshot takeSnapshot recompute
    rw [hcfg]
  refine ⟨hrestore, fun hdrive hinputs hclock htrace => ?_⟩
  rw [hrestore, hdrive, hinputs, hclock, htrace]

/-- The three flags that a warm reset sets (rule R471). -/
theorem warmResetCpu_flags (c : Cpu) :
    flag (warmResetCpu c).p .i = true ∧ flag (warmResetCpu c).p .u = true ∧ flag (warmResetCpu c).p .b = true := by
  simp [flag_warmResetCpu]

/-- A cold reset is a record update but for the cartridge's part (rules R470, R471). -/
theorem coldReset_frame (cart : Option CartLines) (s : State) :
    coldReset cart s =
      { s with cpu := warmResetCpu (powerOnCpu s.clock 0), ddr := 0x00, pdata := 0x00, secCnt := 0,
               ram := Memory.ofPairs (Config.powerOnRam s.clock), exrom := (coldReset cart s).exrom,
               game := (coldReset cart s).game, cfg := (coldReset cart s).cfg } := by
  cases cart <;> rfl

/-- The cartridge's part of a cold reset: both lines 1 or as notified, and `CFG` their function (rules R46, R470, R471). -/
theorem coldReset_lines (cart : Option CartLines) (s : State) :
    (coldReset cart s).exrom = (cart.map CartLines.exrom).getD true ∧
    (coldReset cart s).game = (cart.map CartLines.game).getD true ∧
    (coldReset cart s).cfg = cfgOf 0x00 0x00 (coldReset cart s).exrom (coldReset cart s).game := by
  cases cart <;> exact ⟨rfl, rfl, rfl⟩

/-- Settles O58: a step that begins with a queued reset is that reset, on either system. -/
theorem coldResetRule : Obligations.ColdResetRule := by
  refine ⟨fun s rest cart h => ⟨_, step_host h, ?_⟩, fun s rest op hop h => ⟨_, step_host h, ?_⟩⟩
  · obtain ⟨hexrom, hgame, hcfg⟩ := coldReset_lines cart { clearTrace s with inputs := rest }
    obtain ⟨hi, hu, hb⟩ := warmResetCpu_flags (powerOnCpu s.clock 0)
    have hnone : cart = none → cfgOf 0x00 0x00 ((cart.map CartLines.exrom).getD true)
        ((cart.map CartLines.game).getD true) = 13 := by
      rintro rfl
      decide
    dsimp only [applyHost, hostEffect]
    rw [coldReset_frame]
    refine ⟨rfl, hi_pair _ _, hi, hu, hb, rfl, rfl, rfl, rfl, rfl, rfl, rfl, rfl, hcfg, fun hn => ⟨?_, ?_, ?_⟩,
      fun l hl => ⟨?_, ?_⟩, Memory.ofPairs_wf _, rfl, rfl, rfl⟩
    · rw [hexrom, hn]; rfl
    · rw [hgame, hn]; rfl
    · rw [hcfg, hexrom, hgame, hnone hn]
    · rw [hexrom, hl]; rfl
    · rw [hgame, hl]; rfl
  · obtain rfl | rfl := hop <;> dsimp only [applyHost, hostEffect, clearTrace]
    · obtain ⟨hi, hu, hb⟩ := warmResetCpu_flags (powerOnCpu s.clock 20)
      exact ⟨rfl, hi, hu, hb, rfl, rfl, rfl, fun _ => ⟨rfl, hi_pair _ _, rfl, Memory.ofPairs_wf _⟩,
        (nomatch ·), rfl, ⟨rfl, rfl, rfl, rfl, rfl, rfl⟩, rfl, rfl⟩
    · obtain ⟨hi, hu, hb⟩ := warmResetCpu_flags s.drive.cpu
      exact ⟨rfl, hi, hu, hb, rfl, rfl, rfl, (nomatch ·), fun _ => ⟨warmResetCpu_eq s.drive.cpu, rfl⟩, rfl,
        ⟨rfl, rfl, rfl, rfl, rfl, rfl⟩, rfl, rfl⟩

end Sys2Proof.Machine
end

section
/-! The bus arbiter and the cartridge's notification (spec/40_engine.md rules R172, R174, spec/10_state.md rule R46,
spec/60_exceptions.md rule R426). -/

set_option Elab.async false

namespace Sys2Proof.Machine

/-! Where the memory side of a system cycle comes from: step 2, and the notification of step 3. -/

section

variable (feed : List Byte) (s : State)

theorem systemCycle_ram : (systemCycle feed s).ram = (s.accessed feed).ram := by
  rw [systemCycle_frame, notifyCart_frame]

theorem systemCycle_ddr : (systemCycle feed s).ddr = (s.accessed feed).ddr := by
  rw [systemCycle_frame, notifyCart_frame]

theorem systemCycle_pdata : (systemCycle feed s).pdata = (s.accessed feed).pdata := by
  rw [systemCycle_frame, notifyCart_frame]

theorem systemCycle_trace : (systemCycle feed s).trace = (s.accessed feed).trace := by
  rw [systemCycle_frame, notifyCart_frame]

/-- Without a notification the lines stay and `CFG` is what the access left. -/
theorem systemCycle_silent (h : (nextInput s).cart = none) :
    (systemCycle feed s).exrom = s.exrom ∧ (systemCycle feed s).game = s.game ∧
      (systemCycle feed s).cfg = (s.accessed feed).cfg := by
  obtain ⟨hexrom, hgame, -⟩ := accessed_frame s feed
  rw [systemCycle_frame, h]
  exact ⟨hexrom, hgame, rfl⟩

/-- A notification gives the lines their values and recomputes `CFG` with the port as the cycle leaves it. -/
theorem systemCycle_notified {l : CartLines} (h : (nextInput s).cart = some l) :
    (systemCycle feed s).exrom = l.exrom ∧ (systemCycle feed s).game = l.game ∧
      (systemCycle feed s).cfg = cfgOf (systemCycle feed s).ddr (systemCycle feed s).pdata l.exrom l.game := by
  rw [systemCycle_ddr, systemCycle_pdata, systemCycle_frame, h]
  exact ⟨rfl, rfl, rfl⟩

end

/-- A withholding master that writes nothing leaves RAM as it is (rule R174). -/
theorem withheldCycle_ram_of_none {c : CycleInput} (h : c.master = none) (s : State) : (withheldCycle c s).ram = s.ram := by
  unfold withheldCycle
  rw [h]

/-- The one write of a withholding master (rules R84, R174). -/
theorem withheldCycle_ram_of_some {c : CycleInput} {w : Addr × Byte} (h : c.master = some w) (s : State) :
    (withheldCycle c s).ram = s.ram.write w.1 w.2 := by
  unfold withheldCycle
  rw [h]

/-- The setters make no IRQ request usable (rule R420). -/
theorem irqT_usable_of_setLevels {irq nmi : Bool} {c : Cpu} (h : (setLevels irq nmi c).irqT = .usable) :
    c.irqT = .usable := by
  rw [setLevels, setNmi_eq] at h
  dsimp only at h
  rw [setIrq_irqT] at h
  split at h
  · split at h
    · exact nomatch h
    · exact h
  · exact nomatch h

/-- The setters make no NMI request usable (rule R421). -/
theorem nmiT_usable_of_setLevels {irq nmi : Bool} {c : Cpu} (h : (setLevels irq nmi c).nmiT = .usable) :
    c.nmiT = .usable := by
  rw [setLevels, setNmi_eq, setIrq_frame] at h
  dsimp only at h
  split at h
  · exact nomatch h
  · exact h

/-- Settles O49: step 2 of a withheld cycle is the master's write alone, and step 3 comes after step 2 in every cycle. -/
theorem stallHolds : Obligations.StallHolds := by
  refine ⟨?_, ?_⟩
  · rintro feed s t hbw rfl
    have hacc := accessed_of_withheld hbw feed
    have hcpu : (systemCycle feed s).cpu = setLevels (nextInput s).irq (nextInput s).nmi s.cpu := by
      rw [systemCycle_cpu, ← accessed_cpu, hacc]
      rfl
    refine ⟨hcpu, ?_, fun hm => ?_, fun a v hm => ⟨fun hwf => ?_, fun b hb => ?_⟩, ?_, ?_, fun hn => ?_, fun hu => ?_,
      fun hu => ?_⟩
    · rw [systemCycle_trace, hacc]
      rfl
    · rw [systemCycle_ram, hacc, withheldCycle_ram_of_none hm]
    · rw [systemCycle_ram, hacc, withheldCycle_ram_of_some hm, Memory.read_write_self hwf]
    · rw [systemCycle_ram, hacc, withheldCycle_ram_of_some hm, Memory.read_write_ne v (by simpa using hb)]
    · rw [systemCycle_ddr, hacc]
      rfl
    · rw [systemCycle_pdata, hacc]
      rfl
    · obtain ⟨hexrom, hgame, hcfg⟩ := systemCycle_silent feed s hn
      exact ⟨hexrom, hgame, hcfg.trans (by rw [hacc]; rfl)⟩
    · exact irqT_usable_of_setLevels (hcpu ▸ hu)
    · exact nmiT_usable_of_setLevels (hcpu ▸ hu)
  · rintro feed s t rfl
    refine ⟨fun l hl => systemCycle_notified feed s hl, fun hn => ?_, fun u hbw hu => ?_⟩
    · obtain ⟨hexrom, hgame, -⟩ := systemCycle_silent feed s hn
      exact ⟨hexrom, hgame⟩
    · rw [← accessed_of_not_withheld hbw] at hu
      subst hu
      refine ⟨systemCycle_ram feed s, systemCycle_ddr feed s, systemCycle_pdata feed s, systemCycle_trace feed s,
        fun hn => ?_⟩
      obtain ⟨-, -, hcfg⟩ := systemCycle_silent feed s hn
      exact hcfg

end Sys2Proof.Machine
end

section
/-! SUPPORT. The decoder's answer encodes to the bytes it was read from (spec/30_encoding.md rules R130 to R134). -/

set_option Elab.async false

namespace Sys2Proof.Machine

/-- The bytes of the instruction with opcode `op`: the opcode and as many operand bytes as its mode takes, those of an
address little-endian (rules R72, R131). -/
def formBytes (op b1 b2 : Byte) : List Byte :=
  match operandCount op with
  | 0 => [op]
  | 1 => [op, b1]
  | _ => [op, lo (pair b2 b1), hi (pair b2 b1)]

section

variable {op : Byte} (b1 b2 : Byte)

theorem formBytes_zero (h : operandCount op = 0) : formBytes op b1 b2 = [op] := by
  simp only [formBytes, h]

theorem formBytes_one (h : operandCount op = 1) : formBytes op b1 b2 = [op, b1] := by
  simp only [formBytes, h]

theorem formBytes_two (h : operandCount op = 2) : formBytes op b1 b2 = [op, b1, b2] := by
  simp only [formBytes, h, lo_pair, hi_pair]

end

/-- A mode takes at most two operand bytes (rule R131). -/
theorem operandCount_cases (op : Byte) : operandCount op = 0 ∨ operandCount op = 1 ∨ operandCount op = 2 := by
  unfold operandCount
  cases modeOf op <;> decide

/-- The entries of a table of the decoder, the first of them for opcode `n`, encode to their opcodes' bytes. -/
def RowEncodesFrom (n : Nat) (row : List (Byte → Byte → Instr)) : Prop :=
  ∀ b1 b2, row.map (fun f => encode (f b1 b2)) =
    (List.range' n row.length).map (fun k => formBytes (BitVec.ofNat 8 k) b1 b2)

/-- A table of sixteen entries with the tables after it. -/
theorem RowEncodesFrom.cons {n : Nat} {r q : List (Byte → Byte → Instr)} (hr : RowEncodesFrom n r)
    (hq : RowEncodesFrom (n + 16) q) (hlen : r.length = 16 := by rfl) : RowEncodesFrom n (r ++ q) := fun b1 b2 => by
  rw [List.map_append, hr, hq, List.length_append, hlen, ← List.range'_append_1, List.map_append]

/-- Every table of the decoder encodes to its row of the opcode matrix (rule R134). -/
theorem decodeRows_encode : RowEncodesFrom 0 decodeRows := by
  unfold decodeRows
  simp only [List.append_assoc]
  iterate 15 refine .cons (fun _ _ => rfl) ?_
  exact fun _ _ => rfl

/-- The decoded instruction encodes to its opcode and operand bytes (rules R130, R131). -/
theorem encode_decodeForm (op b1 b2 : Byte) : encode (decodeForm op b1 b2) = formBytes op b1 b2 := by
  have hlen : decodeRows.length = 256 := by decide +kernel
  have hop : op.toNat < decodeRows.length := by rw [hlen]; exact op.isLt
  have h := congrArg (fun l => l[op.toNat]?) (decodeRows_encode b1 b2)
  simpa [decodeForm, List.getD_eq_getElem?_getD, hop] using h

/-- Byte `k` of an instruction is byte `k` of the three it was decoded from. -/
theorem formBytes_getElem? {op b1 b2 b : Byte} {k : Nat} (h : (formBytes op b1 b2)[k]? = some b) :
    k < 3 ∧ b = [op, b1, b2].getD k 0 := by
  rcases operandCount_cases op with hc | hc | hc
  · rw [formBytes_zero _ _ hc] at h
    rcases k with _ | k <;> simp_all
  · rw [formBytes_one _ _ hc] at h
    rcases k with _ | _ | k <;> simp_all
  · rw [formBytes_two _ _ hc] at h
    rcases k with _ | _ | _ | k <;> simp_all

/-- Three bytes are enough for any instruction (rules R130, R131). -/
theorem decode_three (op b1 b2 : Byte) :
    decode [op, b1, b2] = .ok (decodeForm op b1 b2, [b1, b2].drop (operandCount op)) := by
  have hcount : ¬ [b1, b2].length < operandCount op := by
    have := operandCount_cases op
    simp only [List.length_cons, List.length_nil]
    omega
  exact if_neg hcount

end Sys2Proof.Machine
end

section
/-! A step as a run of plain system cycles (spec/40_engine.md rules R172, R231): feeding a run the bytes that its own reads
of the instruction stream deliver changes nothing. -/

set_option Elab.async false

namespace Sys2Proof.Machine

/-! What the coming cycle reads. -/

/-- The byte that is fed to the coming cycle, if it is to read one of the instruction stream, is the one that `Access`
returns in it. -/
def FeedMatches (feed : List Byte) (s : State) : Prop :=
  (nextInput s).bw = false → isStreamRead (romAt s.cpu.mcp) = true →
    ∀ b ∈ feed.head?, b = busRead s (nextInput s) (s.cpu.view (romAt s.cpu.mcp).ar)

/-- Nothing fed. -/
theorem readByte_nil (m : MicroOp) (s : State) (c : CycleInput) (a : Addr) : readByte [] m s c a = busRead s c a := by
  unfold readByte
  cases isStreamRead m <;> rfl

/-- A byte that matches is delivered as if nothing were fed. -/
theorem readByte_of_feedMatches {feed : List Byte} {s : State} (h : FeedMatches feed s) (hbw : (nextInput s).bw = false) :
    readByte feed (romAt s.cpu.mcp) s (nextInput s) (s.cpu.view (romAt s.cpu.mcp).ar) =
      busRead s (nextInput s) (s.cpu.view (romAt s.cpu.mcp).ar) := by
  cases hst : isStreamRead (romAt s.cpu.mcp) with
  | false => exact readByte_of_not_stream hst _ _ _ _
  | true =>
    cases feed with
    | nil => exact readByte_nil _ _ _ _
    | cons b rest =>
      unfold readByte
      rw [hst]
      exact h hbw hst b rfl

/-- The CPU's cycle depends on the fed bytes through the byte it reads. -/
theorem cpuCycle_congr {feed feed' : List Byte} {c : CycleInput} {s : State}
    (h : readByte feed (romAt s.cpu.mcp) s c (s.cpu.view (romAt s.cpu.mcp).ar) =
      readByte feed' (romAt s.cpu.mcp) s c (s.cpu.view (romAt s.cpu.mcp).ar)) : cpuCycle feed c s = cpuCycle feed' c s := by
  unfold cpuCycle transact
  dsimp only
  rw [h]

/-- A system cycle that is fed what it reads is a plain one. -/
theorem systemCycle_of_feedMatches {feed : List Byte} {s : State} (h : FeedMatches feed s) :
    systemCycle feed s = systemCycle [] s := by
  unfold systemCycle
  dsimp only
  cases hbw : (nextInput s).bw with
  | true => rfl
  | false =>
    have hc : cpuCycle feed (nextInput s) s = cpuCycle [] (nextInput s) s :=
      cpuCycle_congr (by rw [readByte_nil, readByte_of_feedMatches h hbw])
    simp only [cpuCycle_withInputs, hc]

@[simp] theorem feedAfter_nil (m : MicroOp) : feedAfter [] m = [] := by
  unfold feedAfter
  split <;> rfl

@[simp] theorem feedAfterCycle_nil (s : State) : feedAfterCycle [] s = [] := by
  unfold feedAfterCycle
  split
  · rfl
  · exact feedAfter_nil _

/-- A plain run ends with the coming cycle: not withheld, and at a boundary or in the halt slot (rules R230, R231). -/
def endsWithCycle (s : State) : Bool :=
  !(nextInput s).bw && (isBoundary (systemCycle [] s).cpu.mcp || isHalted (systemCycle [] s).cpu.mcp)

/-- A queued host operation ends the run whatever is fed. -/
theorem runCycles_host {fuel : Nat} {feed : List Byte} {s : State} {op : HostOp} {rest : List Event}
    (h : s.inputs = .host op :: rest) : runCycles (fuel + 1) feed s = applyHost op { s with inputs := rest } := by
  rw [runCycles]
  simp only [h]

/-- A run whose first cycle is fed what it reads: the plain cycle, then the rest of the run. -/
theorem runCycles_of_feedMatches {fuel : Nat} {feed : List Byte} {s : State}
    (hq : ∀ op rest, s.inputs ≠ .host op :: rest) (h : FeedMatches feed s) :
    runCycles (fuel + 1) feed s =
      if endsWithCycle s then systemCycle [] s else runCycles fuel (feedAfterCycle feed s) (systemCycle [] s) := by
  rw [runCycles]
  split
  · exact absurd ‹_› (hq _ _)
  · rw [systemCycle_of_feedMatches h]
    rfl

theorem feedMatches_nil (s : State) : FeedMatches [] s := fun _ _ _ hb => nomatch hb

/-- A run whose first cycle is fed what it reads is the plain run when the rest of it is. -/
theorem runCycles_feed_step {fuel : Nat} {feed : List Byte} {s : State} (h : FeedMatches feed s)
    (hrest : runCycles fuel (feedAfterCycle feed s) (systemCycle [] s) = runCycles fuel [] (systemCycle [] s)) :
    runCycles (fuel + 1) feed s = runCycles (fuel + 1) [] s := by
  by_cases hq : ∃ op rest, s.inputs = .host op :: rest
  · obtain ⟨op, rest, hq⟩ := hq
    rw [runCycles_host hq, runCycles_host hq]
  · have hq' : ∀ op rest, s.inputs ≠ .host op :: rest := fun op rest e => hq ⟨op, rest, e⟩
    rw [runCycles_of_feedMatches hq' h, runCycles_of_feedMatches hq' (feedMatches_nil s), feedAfterCycle_nil, hrest]

/-! The bytes that a run reads. -/

/-- The two lists agree wherever both have a byte. -/
def Agree (feed bs : List Byte) : Prop := ∀ (k : Nat) (b c : Byte), feed[k]? = some b → bs[k]? = some c → b = c

theorem Agree.tail {feed bs : List Byte} {b : Byte} (h : Agree feed (b :: bs)) : Agree feed.tail bs := fun k x y hx hy =>
  h (k + 1) x y (by simpa using hx) (by simpa using hy)

/-- The bus event of the coming cycle. -/
def cycleEvent (s : State) : BusEvent :=
  let m := romAt s.cpu.mcp
  let a := s.cpu.view m.ar
  if (nextInput s).bw then .withheld
  else match m.rw with
    | .read => .access a .read (busRead s (nextInput s) a) (target s .read a) (isStreamRead m)
    | .write => .access a .write (s.cpu.cell m.dr) (target s .write a) false

/-- A plain system cycle records its one event (rule R171). -/
theorem systemCycle_nil_trace (s : State) : (systemCycle [] s).trace = s.trace ++ [cycleEvent s] := by
  rw [systemCycle_trace]
  unfold State.accessed cycleEvent
  cases (nextInput s).bw with
  | true => rfl
  | false =>
    simp only [Bool.false_eq_true, if_false, cpuCycle, transact, readByte_nil]
    cases (romAt s.cpu.mcp).rw <;> rfl

/-- A record that reads the instruction stream reads. -/
theorem rw_of_isStreamRead {m : MicroOp} (h : isStreamRead m = true) : m.rw = .read := by
  unfold isStreamRead at h
  simp only [Bool.and_eq_true, decide_eq_true_eq] at h
  exact h.1

/-- The byte of a cycle that reads the instruction stream. -/
theorem streamByte_cycleEvent {s : State} (hbw : (nextInput s).bw = false) (hst : isStreamRead (romAt s.cpu.mcp) = true) :
    streamByte (cycleEvent s) = some (busRead s (nextInput s) (s.cpu.view (romAt s.cpu.mcp).ar)) := by
  simp only [cycleEvent, hbw, Bool.false_eq_true, if_false, rw_of_isStreamRead hst, streamByte, hst, if_true]

/-- Any other cycle has none. -/
theorem streamByte_cycleEvent_none {s : State}
    (h : (nextInput s).bw = true ∨ isStreamRead (romAt s.cpu.mcp) = false) : streamByte (cycleEvent s) = none := by
  unfold cycleEvent
  dsimp only
  split
  · rfl
  · rename_i hbw
    have hst := h.resolve_left hbw
    cases (romAt s.cpu.mcp).rw
    · simp [streamByte, hst]
    · rfl

/-- A host operation records no event. -/
theorem applyHost_trace (op : HostOp) (s : State) : (applyHost op s).trace = s.trace := by
  cases op with
  | coldReset cart | warmReset cart => cases cart <;> rfl
  | _ => rfl

/-- Bytes that agree with those of a run's events match in its first cycle, and what is left of them agrees with the rest. -/
theorem Agree.cycle {feed : List Byte} {s : State} {tr : List BusEvent}
    (h : Agree feed ((cycleEvent s :: tr).filterMap streamByte)) :
    FeedMatches feed s ∧ Agree (feedAfterCycle feed s) (tr.filterMap streamByte) := by
  by_cases hfetch : (nextInput s).bw = false ∧ isStreamRead (romAt s.cpu.mcp) = true
  · obtain ⟨hbw, hst⟩ := hfetch
    rw [List.filterMap_cons_some (streamByte_cycleEvent hbw hst)] at h
    refine ⟨fun _ _ b hb => h 0 _ _ (by rw [← List.head?_eq_getElem?]; exact hb) rfl, ?_⟩
    simpa [feedAfterCycle, hbw, feedAfter, hst] using h.tail
  · have hnone : (nextInput s).bw = true ∨ isStreamRead (romAt s.cpu.mcp) = false := by
      cases hbw : (nextInput s).bw <;> simp_all
    rw [List.filterMap_cons_none (streamByte_cycleEvent_none hnone)] at h
    refine ⟨fun hbw hst => absurd ⟨hbw, hst⟩ hfetch, ?_⟩
    rcases hnone with hbw | hst
    · simpa [feedAfterCycle, hbw] using h
    · simpa [feedAfterCycle, feedAfter, hst] using h

/-- A run adds events to those recorded before, and fed with bytes that agree with those of its events it is the same run. -/
theorem runCycles_trace (fuel : Nat) (s : State) : ∃ tr, (runCycles fuel [] s).trace = s.trace ++ tr ∧
    ∀ feed, Agree feed (tr.filterMap streamByte) → runCycles fuel feed s = runCycles fuel [] s := by
  induction fuel generalizing s with
  | zero => exact ⟨[], (List.append_nil _).symm, fun _ _ => rfl⟩
  | succ fuel ih =>
    by_cases hhost : ∃ op rest, s.inputs = .host op :: rest
    · obtain ⟨op, rest, hq⟩ := hhost
      refine ⟨[], ?_, fun feed _ => by rw [runCycles_host hq, runCycles_host hq]⟩
      rw [runCycles_host hq, applyHost_trace, List.append_nil]
    · have hq : ∀ op rest, s.inputs ≠ .host op :: rest := fun op rest e => hhost ⟨op, rest, e⟩
      rw [runCycles_of_feedMatches hq (feedMatches_nil s), feedAfterCycle_nil]
      by_cases hend : endsWithCycle s = true
      · rw [if_pos hend]
        refine ⟨[cycleEvent s], systemCycle_nil_trace s, fun feed h => ?_⟩
        rw [runCycles_of_feedMatches hq h.cycle.1, if_pos hend]
      · rw [if_neg hend]
        obtain ⟨tr, htr, hfeed⟩ := ih (systemCycle [] s)
        refine ⟨cycleEvent s :: tr, ?_, fun feed h => ?_⟩
        · rw [htr, systemCycle_nil_trace, List.append_assoc, List.singleton_append]
        · obtain ⟨hmatch, hrest⟩ := h.cycle
          rw [runCycles_of_feedMatches hq hmatch, if_neg hend, hfeed _ hrest]

/-- A run that is fed bytes that agree with the instruction-stream bytes of the plain run is the plain run. -/
theorem runSequence_of_agree {feed : List Byte} {s : State} (h : Agree feed (streamBytes s)) :
    runSequence feed s = runSequence [] s := by
  obtain ⟨tr, htr, hfeed⟩ := runCycles_trace (enoughFuel s) (clearTrace s)
  refine hfeed feed ?_
  rw [clearTrace_trace, List.nil_append] at htr
  rw [← htr]
  exact h

/-- The fetched instruction's bytes agree with the bytes it was fetched from. -/
theorem encode_fetch_agree (s : State) : Agree (encode (fetch s)) (streamBytes s) := by
  intro k b c hb hc
  rw [fetch, encode_decodeForm] at hb
  obtain ⟨hk, rfl⟩ := formBytes_getElem? hb
  have hget : (streamBytes s).getD k 0 = c := by rw [List.getD_eq_getElem?_getD, hc]; rfl
  rw [← hget]
  interval_cases k <;> rfl

/-- Off a boundary a step feeds nothing, at the start of the reset sequence too. -/
theorem step_off_boundary {s : State} (hb : ¬ isBoundary s.cpu.mcp = true) : step s = .next (runSequence [] s) := by
  unfold step
  rw [if_neg hb]
  split
  · rename_i hr
    show Host.Outcome.next (runSequence [] { s with cpu := { s.cpu with mcp := resetStart } }) = _
    rw [← hr]
  · rfl

/-- Settles O5: at a boundary the instruction that is fed is the one that the plain run reads; elsewhere nothing is fed. -/
theorem stepIsCycles : Obligations.StepIsCycles := by
  intro s
  by_cases hb : isBoundary s.cpu.mcp = true
  · have hstep : step s = exec (fetch s) s := if_pos hb
    have hwf : (fetch s).wellFormed = true := decodeForm_wellFormed _ _ _
    rw [hstep, exec_boundary hwf hb, runSequence_of_agree (encode_fetch_agree s)]
  · exact step_off_boundary hb

end Sys2Proof.Machine
end

section
/-! A step at a boundary in a quiet environment (spec/20_memory.md rule R82, spec/40_engine.md rule R231): the run is fed
what it reads, opcode and operand bytes in its first three cycles, the high byte of JSR's operand in its sixth (rule R321). -/

set_option Elab.async false

namespace Sys2Proof.Machine

/-- What is fed matches in a quiet cycle when it is what the memory side so far answers. -/
theorem Ends.feedMatches {s t : State} {c : Cpu} {m : State} {bus : List Transfer} (h : Ends s t c m bus)
    {feed : List Byte} (hb : isStreamRead (romAt c.mcp) = true → ∀ b ∈ feed.head?,
      b = busRead m (quietInput (s.clock + bus.length)) (c.view (romAt c.mcp).ar)) : FeedMatches feed t := by
  intro _ hst b hmem
  have hn : nextInput t = quietInput (s.clock + bus.length) := by unfold nextInput; rw [h.inputs, h.clock]
  rw [h.cpu] at hst
  rw [hn, h.cpu, busRead_of_sameMemory h.memory]
  exact hb hst b hmem

/-- The bytes left after a quiet cycle. -/
theorem Ends.feedAfterCycle {s t : State} {c : Cpu} {m : State} {bus : List Transfer} (h : Ends s t c m bus)
    (feed : List Byte) : feedAfterCycle feed t = feedAfter feed (romAt c.mcp) := by
  have hn : nextInput t = quietInput t.clock := by unfold nextInput; rw [h.inputs]
  unfold Machine.feedAfterCycle
  rw [hn, h.cpu]
  rfl

/-- Feeding a quiet run that goes on after a read cycle. -/
theorem Ends.feedRead {s t : State} {c : Cpu} {m : State} {bus : List Transfer} (h : Ends s t c m bus)
    {fuel : Nat} {feed : List Byte} {ar : View} {dr : Cell} {inc : Bool} {tag : Tag} (b : Byte) (c2 : Cpu)
    (hm : romAt c.mcp = ⟨ar, dr, .read, inc, tag⟩)
    (hb : busRead m (quietInput (s.clock + bus.length)) (c.view ar) = b)
    (hf : isStreamRead ⟨ar, dr, .read, inc, tag⟩ = true → ∀ x ∈ feed.head?, x = b)
    (hc : tagAction tag (retire ⟨ar, dr, .read, inc, tag⟩ (c.setCell dr b)) = c2) (hs : c2.Settled)
    (k : ∀ t2, Ends s t2 c2 m (bus ++ [(c.view ar, .read, b)]) →
      runCycles fuel (feedAfter feed ⟨ar, dr, .read, inc, tag⟩) t2 = runCycles fuel [] t2) :
    runCycles (fuel + 1) feed t = runCycles (fuel + 1) [] t := by
  have h2 := h.read [] hm ((readByte_nil _ _ _ _).trans hb)
  have hm2 : romAt (c.setCell dr b).mcp = ⟨ar, dr, .read, inc, tag⟩ := by rw [setCell_mcp]; exact hm
  rw [tick_settled hm2 hc hs] at h2
  refine runCycles_feed_step (h.feedMatches fun hst x hx => ?_) ?_
  · rw [hm] at hst ⊢
    rw [hb]
    exact hf hst x hx
  · rw [h.feedAfterCycle, hm]
    exact k _ h2

/-- Feeding a quiet run that goes on after a write cycle. -/
theorem Ends.feedWrite {s t : State} {c : Cpu} {m : State} {bus : List Transfer} (h : Ends s t c m bus)
    {fuel : Nat} {feed : List Byte} {ar : View} {dr : Cell} {inc : Bool} {tag : Tag} (c2 : Cpu)
    (hm : romAt c.mcp = ⟨ar, dr, .write, inc, tag⟩)
    (hc : tagAction tag (retire ⟨ar, dr, .write, inc, tag⟩ c) = c2) (hs : c2.Settled)
    (k : ∀ t2, Ends s t2 c2 (busWrite m (c.view ar) (c.cell dr)) (bus ++ [(c.view ar, .write, c.cell dr)]) →
      runCycles fuel feed t2 = runCycles fuel [] t2) :
    runCycles (fuel + 1) feed t = runCycles (fuel + 1) [] t := by
  have h2 := h.write [] hm
  rw [tick_settled hm hc hs] at h2
  refine runCycles_feed_step (h.feedMatches fun hst => ?_) ?_
  · rw [hm] at hst
    exact nomatch hst
  · rw [h.feedAfterCycle, hm]
    exact k _ h2

/-- Feeding a quiet run its last operand byte. -/
theorem Ends.feedLast {s t : State} {c : Cpu} {m : State} {bus : List Transfer} (h : Ends s t c m bus) {fuel : Nat}
    {b : Byte} (hst : isStreamRead (romAt c.mcp) = true) (hpc : (romAt c.mcp).ar = .pc)
    (hb : busRead m (quietInput (s.clock + bus.length)) c.pc = b) :
    runCycles (fuel + 1) [b] t = runCycles (fuel + 1) [] t := by
  refine runCycles_feed_step (h.feedMatches fun _ x hx => ?_) ?_
  · obtain rfl : b = x := by simpa using hx
    rw [hpc]
    exact hb.symm
  · rw [h.feedAfterCycle, feedAfter, if_pos hst]
    rfl

/-- Feeding a quiet run from a `Ready` boundary the opcode that it fetches. -/
theorem runSequence_feedOpcode {s : State} (hs : s.Ready) {op : Byte} {rest : List Byte}
    (hop : s.readAt 0 s.cpu.pc = op)
    (k : ∀ t2, Ends s t2 (entered op s.cpu) s [(s.cpu.pc, .read, op)] → runCycles 8 rest t2 = runCycles 8 [] t2) :
    runSequence (op :: rest) s = runSequence [] s := by
  have hr := romAt_boundary s.cpu.mcp hs.boundary
  have h := Ends.start hs.quiet
  have h2 := h.read [] hr ((readByte_nil _ _ _ _).trans hop)
  rw [entered_of_fetch op hs.boundary hs.calm] at h2
  unfold runSequence
  rw [enoughFuel_quiet hs.quiet]
  refine runCycles_feed_step (h.feedMatches fun _ x hx => ?_) ?_
  · obtain rfl : op = x := by simpa using hx
    rw [hr]
    exact hop.symm
  · rw [h.feedAfterCycle, hr]
    exact k _ h2

/-- The records of a sequence that read an instruction's operand are its first ones, but for JSR (rules R131, R138, R321). -/
theorem operandRecords : ∀ op : Byte,
    (operandCount op = 1 → isStreamRead (romAt (opcStart op)) = true ∧ (romAt (opcStart op)).ar = .pc) ∧
    (operandCount op = 2 → romAt (opcStart op) = ⟨.pc, .a1l, .read, true, .nmop⟩ ∧
      (op ≠ 0x20 → isStreamRead (romAt (opcStart op + 1)) = true ∧ (romAt (opcStart op + 1)).ar = .pc)) := by
  decide +kernel

/-- A quiet run from a `Ready` boundary reads the bytes at `PC`, `PC + 1` and `PC + 2` in its first three cycles, as many
as the opcode's mode takes. -/
theorem runSequence_formBytes {s : State} (hs : s.Ready) {op : Byte} (hop : s.readAt 0 s.cpu.pc = op) (hjsr : op ≠ 0x20) :
    runSequence (formBytes op (s.readAt 1 (s.cpu.pc + 1)) (s.readAt 2 (s.cpu.pc + 2))) s = runSequence [] s := by
  obtain ⟨h1, h2⟩ := operandRecords op
  rcases operandCount_cases op with hcount | hcount | hcount
  · rw [formBytes_zero _ _ hcount]
    exact runSequence_feedOpcode hs hop fun t2 _ => rfl
  · rw [formBytes_one _ _ hcount]
    obtain ⟨hst, har⟩ := h1 hcount
    exact runSequence_feedOpcode hs hop fun t2 h => h.feedLast hst har rfl
  · rw [formBytes_two _ _ hcount]
    obtain ⟨hm, hlast⟩ := h2 hcount
    obtain ⟨hst, har⟩ := hlast hjsr
    refine runSequence_feedOpcode hs hop fun t2 h => ?_
    refine h.feedRead (s.readAt 1 (s.cpu.pc + 1))
      { entered op s.cpu with a1 := setLo s.cpu.a1 (s.readAt 1 (s.cpu.pc + 1)), pc := s.cpu.pc + 2,
                              mcp := opcStart op + 1 }
      hm rfl (fun _ x hx => ?_) (by simp [tagAction, retire, Cpu.setCell, entered, addr_add_two])
      ⟨advance_advance _, rfl, rfl⟩ fun t3 h3 => ?_
    · simpa using hx.symm
    · exact h3.feedLast hst har rfl

/-- The run of JSR reads the high byte of its operand at `PC + 2` after both pushes (rule R321). -/
theorem runSequence_jsrBytes {s m : State} (hs : s.Ready) (hop : s.readAt 0 s.cpu.pc = 0x20)
    (hmem : m = busWrite (busWrite s s.cpu.sp (hi (s.cpu.pc + 2))) (stackBelow s.cpu 1) (lo (s.cpu.pc + 2))) :
    runSequence [0x20, s.readAt 1 (s.cpu.pc + 1), m.readAt 5 (s.cpu.pc + 2)] s = runSequence [] s := by
  generalize hlow : s.readAt 1 (s.cpu.pc + 1) = low
  have hclock : m.clock = s.clock := by rw [hmem, busWrite_clock, busWrite_clock]
  refine runSequence_feedOpcode hs hop fun t2 h2 => ?_
  refine h2.feedRead low
    { entered 0x20 s.cpu with mcp := 150, a1 := setLo s.cpu.a1 low, pc := s.cpu.pc + 2 }
    rfl hlow (fun _ x hx => by simpa using hx.symm)
    (by simp [tagAction, retire, Cpu.setCell, entered, addr_add_two]; rfl) ⟨advance_advance _, rfl, rfl⟩ fun t3 h3 => ?_
  refine h3.feedRead (s.readAt 2 s.cpu.sp)
    { entered 0x20 s.cpu with mcp := 151, a1 := setLo s.cpu.a1 low, pc := s.cpu.pc + 2, d := s.readAt 2 s.cpu.sp }
    rfl rfl (nomatch ·) rfl ⟨advance_advance _, rfl, rfl⟩ fun t4 h4 => ?_
  refine h4.feedWrite
    { entered 0x20 s.cpu with mcp := 152, a1 := setLo s.cpu.a1 low, pc := s.cpu.pc + 2, d := s.readAt 2 s.cpu.sp,
                              sp := stackBelow s.cpu 1 }
    rfl rfl ⟨advance_advance _, rfl, rfl⟩ fun t5 h5 => ?_
  refine h5.feedWrite
    { entered 0x20 s.cpu with mcp := 153, a1 := setLo s.cpu.a1 low, pc := s.cpu.pc + 2, d := s.readAt 2 s.cpu.sp,
                              sp := stackBelow s.cpu 2 }
    rfl (by simp [tagAction, retire, decSp, Cpu.setS, Cpu.s, stackBelow, byte_sub_sub])
    ⟨advance_advance _, rfl, rfl⟩ fun t6 h6 => ?_
  refine h6.feedLast rfl rfl ?_
  show busRead (busWrite (busWrite s s.cpu.sp (hi (s.cpu.pc + 2))) (stackBelow s.cpu 1) (lo (s.cpu.pc + 2)))
    (quietInput (s.clock + 5)) (s.cpu.pc + 2) = _
  rw [← hmem, State.readAt, hclock]

/-- A step at a boundary is `exec` of an instruction whose bytes can be fed to the plain run. -/
theorem step_eq_exec {i : Instr} {s : State} (hi : i.wellFormed = true) (hb : isBoundary s.cpu.mcp = true)
    (h : runSequence (encode i) s = runSequence [] s) : step s = exec i s := by
  rw [stepIsCycles s, exec_boundary hi hb, h]

/-- Settles O4: the run of cycles that a step is can be fed the bytes of the instruction that it reads. -/
theorem stepRunsDecoded : Obligations.StepRunsDecoded := by
  intro s hs
  refine ⟨fun i left hop hdec => ?_, fun m hop hmem => ?_⟩
  · rw [decode_three, Except.ok.injEq, Prod.mk.injEq] at hdec
    obtain ⟨rfl, -⟩ := hdec
    refine step_eq_exec (decodeForm_wellFormed _ _ _) hs.boundary ?_
    rw [encode_decodeForm, runSequence_formBytes hs rfl hop]
  · refine step_eq_exec rfl hs.boundary ?_
    have henc : encode (.jsrAbs (pair (m.readAt 5 (s.cpu.pc + 2)) (s.readAt 1 (s.cpu.pc + 1)))) =
        [0x20, s.readAt 1 (s.cpu.pc + 1), m.readAt 5 (s.cpu.pc + 2)] := by
      show [0x20, lo _, hi _] = _
      rw [lo_pair, hi_pair]
    rw [henc, runSequence_jsrBytes hs hop hmem]

end Sys2Proof.Machine
end

section
/-! The bank decoder, the port and RAM (spec/20_memory.md rules R91 to R107): the tables of rules R95 and R96 entry by entry,
and what an access of each region does. -/

set_option Elab.async false

namespace Sys2Proof.Machine

/-! MODE (rules R93 to R95). -/

/-- MODE as a sum: the two cartridge lines over the three port bits (rule R94). -/
theorem modeBits_toNat : ∀ (exrom game : Bool) (x : BitVec 3),
    (BitVec.ofBool exrom ++ BitVec.ofBool game ++ x).toNat =
      carryNat exrom * 16 + carryNat game * 8 + carryNat (x.getLsbD 2) * 4 + carryNat (x.getLsbD 1) * 2 +
        carryNat (x.getLsbD 0) := by decide

/-- A port bit is the latch's where it is an output and 1 where it is an input (rule R93). -/
theorem portBits_getLsbD (ddr pdata : Byte) {i : Nat} (h : i < 3) :
    (portBits ddr pdata).getLsbD i = if ddr.getLsbD i then pdata.getLsbD i else true := by
  have h8 : i < 8 := by omega
  unfold portBits
  rw [BitVec.getLsbD_extractLsb', BitVec.getLsbD_or, BitVec.getLsbD_not, Nat.zero_add, decide_eq_true h, decide_eq_true h8]
  cases ddr.getLsbD i <;> simp

/-- The table of rule R95 in numbers. -/
theorem modeToCfg_val (n : Nat) : (modeToCfg.getD n 0).val =
    [0, 0, 1, 2, 0, 3, 4, 5, 0, 6, 7, 8, 0, 3, 9, 10, 11, 11, 11, 11, 11, 11, 11, 11, 0, 6, 7, 12, 0, 3, 9, 13].getD n 0 :=
  (List.getD_map modeToCfg 0 Fin.val).symm

/-- Every configuration is that of some MODE with all port bits outputs. -/
theorem cfgOf_surjective : ∀ k : Fin 14, ∃ m : BitVec 5, cfgOf 0xFF (m.setWidth 8) (m.getLsbD 4) (m.getLsbD 3) = k := by
  decide +kernel

/-- Settles O50: MODE is the sum of its bits. -/
theorem modeTable : Obligations.ModeTable := by
  refine ⟨fun ddr pdata exrom game bit hbit => ?_, fun k => ?_⟩
  · have hport : ∀ i < 3, carryNat ((portBits ddr pdata).getLsbD i) = bit i := by
      intro i hi
      rw [portBits_getLsbD ddr pdata hi, hbit i]
      cases ddr.getLsbD i <;> rfl
    unfold cfgOf rawMode
    rw [modeToCfg_val, modeBits_toNat, hport 0 (by decide), hport 1 (by decide), hport 2 (by decide)]
  · obtain ⟨m, hm⟩ := cfgOf_surjective k
    exact ⟨_, _, _, _, hm⟩

/-! The layouts (rule R96). -/

/-- The 4 KB block of an address. -/
def blockOf (a : Addr) : Nat := a.toNat / 4096

theorem blockOf_lt (a : Addr) : blockOf a < 16 := by
  have := a.isLt
  unfold blockOf
  omega

/-- The region of an address is that of its block in the configuration's layout (rules R96, R109). -/
theorem regionOf_eq (k : Fin 14) (dir : Dir) (a : Addr) :
    regionOf k dir a = match dir with
      | .read => ((layoutOf k).block (blockOf a)).1
      | .write => ((layoutOf k).block (blockOf a)).2 := rfl

/-! Comparing an address with the first one of a block. -/

section

variable {n : Nat} (a : Addr)

theorem toNat_blockStart (h : n < 16) : (BitVec.ofNat 16 (n * 4096)).toNat = n * 4096 := by
  rw [BitVec.toNat_ofNat]
  exact Nat.mod_eq_of_lt (by omega)

theorem blockStart_le_iff (h : n < 16) : BitVec.ofNat 16 (n * 4096) ≤ a ↔ n ≤ blockOf a := by
  rw [BitVec.le_def, toNat_blockStart h, blockOf]
  omega

theorem lt_blockStart_iff (h : n < 16) : a < BitVec.ofNat 16 (n * 4096) ↔ blockOf a < n := by
  rw [BitVec.lt_def, toNat_blockStart h, blockOf]
  omega

/-- The last address before a block. -/
theorem le_beforeBlock_iff (h : n < 16) (hpos : 0 < n) : a ≤ BitVec.ofNat 16 (n * 4096 - 1) ↔ blockOf a < n := by
  have hlast : (n * 4096 - 1) % 2 ^ 16 = n * 4096 - 1 := Nat.mod_eq_of_lt (by omega)
  rw [BitVec.le_def, BitVec.toNat_ofNat, hlast, blockOf]
  omega

end

/-- The port lies in block 0, which is RAM in every configuration (rules R91, R96). -/
theorem isPort_eq_false {k : Fin 14} {dir : Dir} {a : Addr} (h : regionOf k dir a ≠ .ram) : isPort a = false := by
  by_contra hp
  have hzero : blockOf a = 0 := by
    simp only [isPort, Bool.not_eq_false, Bool.or_eq_true, decide_eq_true_eq] at hp
    obtain rfl | rfl := hp <;> rfl
  have hram : regionOf k dir a = .ram := by
    rw [regionOf_eq, hzero]
    cases dir <;> rfl
  exact h hram

/-- A read off the port is of its region (rules R91, R103). -/
theorem busRead_of_region {s : State} {a : Addr} (c : CycleInput) (h : isPort a = false) :
    busRead s c a = regionRead s c.answer a (regionOf s.cfg .read a) := by
  unfold busRead
  rw [h]
  rfl

/-- A write off the port is to its region (rules R91, R103). -/
theorem busWrite_of_region {s : State} {a : Addr} (v : Byte) (h : isPort a = false) :
    busWrite s a v = regionWrite s a v (regionOf s.cfg .write a) := by
  unfold busWrite
  rw [h]
  rfl

/-- A write elsewhere than to the port and to RAM changes nothing of the block (rules R98, R101, R105). -/
theorem busWrite_of_not_ram {s : State} {a : Addr} (v : Byte) (h : regionOf s.cfg .write a ≠ .ram) : busWrite s a v = s := by
  rw [busWrite_of_region v (isPort_eq_false h)]
  cases hr : regionOf s.cfg .write a with
  | ram => exact absurd hr h
  | _ => rfl

/-- What answers an access that no device and not the port answers (rules R91, R103). -/
theorem target_of_region {s : State} {dir : Dir} {a : Addr} (hio : regionOf s.cfg dir a ≠ .io)
    (hram : regionOf s.cfg dir a ≠ .ram) : target s dir a = .region (regionOf s.cfg dir a) := by
  unfold target
  rw [isPort_eq_false hram]
  cases hr : regionOf s.cfg dir a with
  | io => exact absurd hr hio
  | _ => rfl

/-- What answers an access of the I/O window (rules R103, R104). -/
theorem target_of_io {s : State} {dir : Dir} {a : Addr} (h : regionOf s.cfg dir a = .io) :
    target s dir a = .device (router a) := by
  have hp : isPort a = false := isPort_eq_false (by rw [h]; decide)
  unfold target
  rw [hp, h]
  rfl

/-- Writes under a ROM outside configuration 11 (rule R99), block by block. -/
theorem blocks_writeUnderRom : ∀ (k : Fin 14) (n : Fin 16), k ≠ 11 →
    ((layoutOf k).block n).1 ∈ ([.basic, .kernal, .char, .roml, .romh] : List Region) →
    ((layoutOf k).block n).2 = .ram := by decide +kernel

/-- Settles O51: the layouts' write side is RAM wherever the read side is a ROM. -/
theorem writeUnderRom : Obligations.WriteUnderRom := by
  refine ⟨fun s a v hk hrom => ?_, rfl, rfl⟩
  have hw : regionOf s.cfg .write a = .ram := blocks_writeUnderRom s.cfg ⟨blockOf a, blockOf_lt a⟩ hk hrom
  have hp : isPort a = false := isPort_eq_false fun hr => absurd (hr ▸ hrom) (by decide)
  exact ⟨hw, by rw [busWrite_of_region v hp, hw]; rfl⟩

/-! What a read and a write of each kind of region answer (rules R98 to R107). -/

/-- The blocks of each kind of region, in every configuration (rule R96). -/
theorem blocks_kinds : ∀ (k : Fin 14) (n : Fin 16) (dir : Dir) (r : Region),
    (match dir with
      | .read => ((layoutOf k).block n).1
      | .write => ((layoutOf k).block n).2) = r →
    (r = .basic → 10 ≤ n.val ∧ n.val < 12) ∧ (r = .kernal → 14 ≤ n.val) ∧
    (r = .char → 13 ≤ n.val ∧ n.val < 14) ∧ (r = .io → 13 ≤ n.val ∧ n.val < 14) := by
  rintro k n dir r rfl
  revert k n
  cases dir <;> decide +kernel

/-- The blocks of BASIC, KERNAL, CHAR and I/O lie where their rules say (rules R96, R101, R102, R104). -/
theorem blockOf_of_region {k : Fin 14} {dir : Dir} {a : Addr} {r : Region} (h : regionOf k dir a = r) :
    (r = .basic → 10 ≤ blockOf a ∧ blockOf a < 12) ∧ (r = .kernal → 14 ≤ blockOf a) ∧
    (r = .char → 13 ≤ blockOf a ∧ blockOf a < 14) ∧ (r = .io → 13 ≤ blockOf a ∧ blockOf a < 14) :=
  blocks_kinds k ⟨blockOf a, blockOf_lt a⟩ dir r h

/-- The low bits of an address are its offset from an image's first address (rules R101, R102). -/
theorem extractLsb'_eq_offset {w base : Nat} {a : Addr} (hbase : 2 ^ w ∣ base) (h : base ≤ a.toNat) :
    a.extractLsb' 0 w = BitVec.ofNat w (a.toNat - base) := by
  apply BitVec.eq_of_toNat_eq
  obtain ⟨q, rfl⟩ := hbase
  rw [BitVec.extractLsb'_toNat, BitVec.toNat_ofNat, Nat.shiftRight_zero]
  conv_lhs => rw [← Nat.sub_add_cancel h, Nat.add_mul_mod_self_left]

/-- The columns of the layouts (rule R96): where each begins. -/
def blockColumn (n : Nat) : Nat :=
  if n < 1 then 0 else if n < 8 then 1 else if n < 10 then 2 else if n < 12 then 3 else if n < 13 then 4
  else if n < 14 then 5 else 6

/-- The column of an address is that of its block. -/
theorem blockColumn_blockOf (a : Addr) :
    blockColumn (blockOf a) =
      if a < 0x1000 then 0 else if a < 0x8000 then 1 else if a < 0xA000 then 2 else if a < 0xC000 then 3
      else if a < 0xD000 then 4 else if a < 0xE000 then 5 else 6 := by
  have h1 : a < 0x1000 ↔ blockOf a < 1 := lt_blockStart_iff a (n := 1) (by decide)
  have h8 : a < 0x8000 ↔ blockOf a < 8 := lt_blockStart_iff a (n := 8) (by decide)
  have h10 : a < 0xA000 ↔ blockOf a < 10 := lt_blockStart_iff a (n := 10) (by decide)
  have h12 : a < 0xC000 ↔ blockOf a < 12 := lt_blockStart_iff a (n := 12) (by decide)
  have h13 : a < 0xD000 ↔ blockOf a < 13 := lt_blockStart_iff a (n := 13) (by decide)
  have h14 : a < 0xE000 ↔ blockOf a < 14 := lt_blockStart_iff a (n := 14) (by decide)
  simp only [blockColumn, h1, h8, h10, h12, h13, h14]

/-- The first address of a slice of the I/O window (rule R104). -/
theorem lt_slice_iff {n : Nat} {a : Addr} (h : blockOf a = 13) (hn : n < 16) :
    a < BitVec.ofNat 16 (0xD000 + n * 256) ↔ a.toNat / 256 % 16 < n := by
  have hstart : (0xD000 + n * 256) % 2 ^ 16 = 0xD000 + n * 256 := Nat.mod_eq_of_lt (by omega)
  unfold blockOf at h
  rw [BitVec.lt_def, BitVec.toNat_ofNat, hstart]
  omega

/-- The device of an address in the I/O window (rule R104). -/
theorem router_eq {a : Addr} (h : blockOf a = 13) :
    router a = if a < 0xD400 then .videoChip else if a < 0xD800 then .soundChip else if a < 0xDC00 then .colorMemory
      else if a < 0xDD00 then .timerChip1 else if a < 0xDE00 then .timerChip2 else if a < 0xDF00 then .cartIo1
      else .cartIo2 := by
  have h4 : a < 0xD400 ↔ a.toNat / 256 % 16 < 4 := lt_slice_iff h (n := 4) (by decide)
  have h8 : a < 0xD800 ↔ a.toNat / 256 % 16 < 8 := lt_slice_iff h (n := 8) (by decide)
  have h12 : a < 0xDC00 ↔ a.toNat / 256 % 16 < 12 := lt_slice_iff h (n := 12) (by decide)
  have h13 : a < 0xDD00 ↔ a.toNat / 256 % 16 < 13 := lt_slice_iff h (n := 13) (by decide)
  have h14 : a < 0xDE00 ↔ a.toNat / 256 % 16 < 14 := lt_slice_iff h (n := 14) (by decide)
  have h15 : a < 0xDF00 ↔ a.toNat / 256 % 16 < 15 := lt_slice_iff h (n := 15) (by decide)
  have hslice : a.toNat / 256 % 16 < 16 := Nat.mod_lt _ (by decide)
  simp only [router, h4, h8, h12, h13, h14, h15]
  generalize a.toNat / 256 % 16 = slice at hslice
  revert slice
  decide

/-- Settles O53: both directions of the port, with the pins 2..0 at 1. -/
theorem portRule : Obligations.PortRule := by
  refine fun s c v => ⟨rfl, fun k hk => ?_, rfl, rfl⟩
  show ((s.pdata &&& s.ddr) ||| ((c.pins ++ (0b111 : BitVec 3)) &&& ~~~s.ddr)).getLsbD k = _
  have hpins : (c.pins ++ (0b111 : BitVec 3)).getLsbD k = (decide (k < 3) || c.pins.getLsbD (k - 3)) := by
    rw [BitVec.getLsbD_append]
    by_cases h3 : k < 3
    · rw [if_pos h3, decide_eq_true h3, Bool.true_or]
      interval_cases k <;> rfl
    · rw [if_neg h3, decide_eq_false h3, Bool.false_or]
  rw [BitVec.getLsbD_or, BitVec.getLsbD_and, BitVec.getLsbD_and, BitVec.getLsbD_not, hpins]
  cases s.ddr.getLsbD k <;> simp [hk]

/-- Settles O54: RAM is read and written at the address itself. -/
theorem ramRule : Obligations.RamRule := by
  refine fun s c a v hwf hp => ⟨fun hr => ?_, fun hw => ?_⟩
  · rw [busRead_of_region c hp, hr]
    rfl
  · refine ⟨s.ram.write a v, ?_, Memory.read_write_self hwf a v, fun b hb => Memory.read_write_ne v hb⟩
    rw [busWrite_of_region v hp, hw]
    rfl

/-- A read of a region that is neither RAM nor I/O (rules R101, R102, R105, R107). -/
theorem busRead_of_not_ram {s : State} {a : Addr} {r : Region} (c : CycleInput) (h : regionOf s.cfg .read a = r)
    (hram : r ≠ .ram) : busRead s c a = regionRead s c.answer a r := by
  subst h
  exact busRead_of_region c (isPort_eq_false hram)

/-- A read of BASIC (rules R96, R101). -/
theorem busRead_basic {s : State} {a : Addr} (c : CycleInput) (h : regionOf s.cfg .read a = .basic) :
    0xA000 ≤ a ∧ a ≤ 0xBFFF ∧ busRead s c a = Config.romBasic (BitVec.ofNat 13 (a.toNat - 0xA000)) := by
  obtain ⟨hbasic, -⟩ := blockOf_of_region h
  obtain ⟨hlo, hhi⟩ := hbasic rfl
  refine ⟨(blockStart_le_iff a (n := 10) (by decide)).mpr hlo,
    (le_beforeBlock_iff a (n := 12) (by decide) (by decide)).mpr hhi, ?_⟩
  rw [busRead_of_not_ram c h (by decide)]
  exact congrArg Config.romBasic (extractLsb'_eq_offset ⟨5, rfl⟩ (by unfold blockOf at hlo; omega))

/-- A read of KERNAL (rules R96, R101). -/
theorem busRead_kernal {s : State} {a : Addr} (c : CycleInput) (h : regionOf s.cfg .read a = .kernal) :
    0xE000 ≤ a ∧ busRead s c a = Config.romKernal (BitVec.ofNat 13 (a.toNat - 0xE000)) := by
  obtain ⟨-, hkernal, -⟩ := blockOf_of_region h
  have hlo := hkernal rfl
  refine ⟨(blockStart_le_iff a (n := 14) (by decide)).mpr hlo, ?_⟩
  rw [busRead_of_not_ram c h (by decide)]
  exact congrArg Config.romKernal (extractLsb'_eq_offset ⟨7, rfl⟩ (by unfold blockOf at hlo; omega))

/-- A read of CHAR (rules R96, R102). -/
theorem busRead_char {s : State} {a : Addr} (c : CycleInput) (h : regionOf s.cfg .read a = .char) :
    0xD000 ≤ a ∧ a ≤ 0xDFFF ∧ busRead s c a = Config.romChar (BitVec.ofNat 12 (a.toNat - 0xD000)) := by
  obtain ⟨-, -, hchar, -⟩ := blockOf_of_region h
  obtain ⟨hlo, hhi⟩ := hchar rfl
  refine ⟨(blockStart_le_iff a (n := 13) (by decide)).mpr hlo,
    (le_beforeBlock_iff a (n := 14) (by decide) (by decide)).mpr hhi, ?_⟩
  rw [busRead_of_not_ram c h (by decide)]
  exact congrArg Config.romChar (extractLsb'_eq_offset ⟨13, rfl⟩ (by unfold blockOf at hlo; omega))

/-- A read that the surroundings answer (rules R105, R107). -/
theorem busRead_answered {s : State} {a : Addr} (c : CycleInput)
    (h : regionOf s.cfg .read a ∈ ([.roml, .romh, .io, .disconnected] : List Region)) : busRead s c a = c.answer := by
  have hram : regionOf s.cfg .read a ≠ .ram := fun e => absurd (e ▸ h) (by decide)
  rw [busRead_of_not_ram c rfl hram]
  cases hr : regionOf s.cfg .read a with
  | roml | romh | io | disconnected => rfl
  | ram | basic | kernal | char => exact absurd (hr ▸ h) (by decide)

/-- A write to a cartridge window or to nothing is sent out and changes nothing of the block (rules R98, R105, R107). -/
theorem write_outside {s : State} {a : Addr} {r : Region} (v : Byte) (h : regionOf s.cfg .write a = r) (hram : r ≠ .ram)
    (hio : r ≠ .io) : target s .write a = .region r ∧ busWrite s a v = s := by
  subst h
  exact ⟨target_of_region hio hram, busWrite_of_not_ram v hram⟩

/-- The write side of configuration 11, block by block (rule R98). -/
theorem blocks_ultimax : ∀ n < 16,
    (8 ≤ n ∧ n < 10 → ((layoutOf 11).block n).2 = .roml) ∧ (14 ≤ n → ((layoutOf 11).block n).2 = .romh) ∧
    ((1 ≤ n ∧ n < 8) ∨ (10 ≤ n ∧ n < 13) → ((layoutOf 11).block n).2 = .disconnected) := by decide +kernel

/-- The writes of configuration 11 that reach neither RAM nor I/O (rule R98). -/
theorem write_ultimax {s : State} (a : Addr) (v : Byte) (hk : s.cfg = 11) :
    ((0x8000 ≤ a ∧ a ≤ 0x9FFF) → target s .write a = .region .roml ∧ busWrite s a v = s) ∧
    (0xE000 ≤ a → target s .write a = .region .romh ∧ busWrite s a v = s) ∧
    ((0x1000 ≤ a ∧ a ≤ 0x7FFF) ∨ (0xA000 ≤ a ∧ a ≤ 0xCFFF) → target s .write a = .region .disconnected ∧
      busWrite s a v = s) := by
  obtain ⟨hroml, hromh, hdisc⟩ := blocks_ultimax (blockOf a) (blockOf_lt a)
  have hreg : regionOf s.cfg .write a = ((layoutOf 11).block (blockOf a)).2 := by rw [regionOf_eq, hk]
  have h1 : 0x1000 ≤ a ↔ 1 ≤ blockOf a := blockStart_le_iff a (n := 1) (by decide)
  have h8 : 0x8000 ≤ a ↔ 8 ≤ blockOf a := blockStart_le_iff a (n := 8) (by decide)
  have h10 : 0xA000 ≤ a ↔ 10 ≤ blockOf a := blockStart_le_iff a (n := 10) (by decide)
  have h14 : 0xE000 ≤ a ↔ 14 ≤ blockOf a := blockStart_le_iff a (n := 14) (by decide)
  have h8' : a ≤ 0x7FFF ↔ blockOf a < 8 := le_beforeBlock_iff a (n := 8) (by decide) (by decide)
  have h10' : a ≤ 0x9FFF ↔ blockOf a < 10 := le_beforeBlock_iff a (n := 10) (by decide) (by decide)
  have h13' : a ≤ 0xCFFF ↔ blockOf a < 13 := le_beforeBlock_iff a (n := 13) (by decide) (by decide)
  rw [h1, h8, h10, h14, h8', h10', h13']
  exact ⟨fun h => write_outside v (hreg.trans (hroml h)) (by decide) (by decide),
    fun h => write_outside v (hreg.trans (hromh h)) (by decide) (by decide),
    fun h => write_outside v (hreg.trans (hdisc h)) (by decide) (by decide)⟩

/-- Settles O52: the layouts column by column, then what each kind of region answers. -/
theorem ultimaxAndDevices : Obligations.UltimaxAndDevices := by
  refine ⟨fun k a col hcol => ?_, fun s c a r hr => ?_, fun s a v hk => write_ultimax a v hk,
    fun s dir a v d hr hd => ?_⟩
  · rw [← blockColumn_blockOf] at hcol
    subst hcol
    rw [regionOf_eq, regionOf_eq]
    have hn := blockOf_lt a
    generalize blockOf a = n at hn
    revert k n
    decide +kernel
  · subst hr
    exact ⟨busRead_basic c, busRead_kernal c, busRead_char c, busRead_answered c,
      fun hmem => target_of_region (fun h => absurd (h ▸ hmem) (by decide)) fun h => absurd (h ▸ hmem) (by decide)⟩
  · obtain ⟨-, -, -, hblock⟩ := blockOf_of_region hr
    obtain ⟨hlo, hhi⟩ := hblock rfl
    refine ⟨(blockStart_le_iff a (n := 13) (by decide)).mpr hlo,
      (le_beforeBlock_iff a (n := 14) (by decide) (by decide)).mpr hhi, ?_, ?_⟩
    · rw [target_of_io hr, router_eq (by omega), hd]
    · rintro rfl
      exact busWrite_of_not_ram v (by rw [hr]; decide)

end Sys2Proof.Machine
end

section
/-! The read-modify-write instructions (spec/20_memory.md rule R76, spec/40_engine.md rules R212 to R220): each is the run of
its addressing mode's sequence, with its own operation between the two writes. -/

set_option Elab.async false

namespace Sys2Proof.Machine

/-- A row of a statement's table agrees with the model: the instruction's bytes are its opcode and `operands`, the opcode
starts the sequence at record `start`, and `do_op` is the row's operation (rules R134, R143, R176). -/
structure RowRuns (start : Cursor) (operands : List Byte) (row : Row) : Prop where
  wellFormed : row.1.wellFormed = true
  bytes : encode row.1 = row.2.1 :: operands
  sequence : opcStart row.2.1 = start
  operation : ∀ c : Cpu, doOp { c with ir := row.2.1 } = row.2.2 { c with ir := row.2.1 }

namespace RowRuns

variable {start : Cursor} {operands : List Byte} {row : Row}

/-- All rows of a table agree with the model when each does. -/
theorem of_mem {rows : List Row} (h : rows.Forall (RowRuns start operands)) (hmem : row ∈ rows) :
    RowRuns start operands row := List.forall_iff_forall_mem.mp h row hmem

/-- At a boundary the instruction is the run of its bytes (rule R231). -/
theorem exec_eq (h : RowRuns start operands row) {s : State} (hs : s.Ready) :
    exec row.1 s = .next (runSequence (row.2.1 :: operands) s) := by
  rw [exec_boundary h.wellFormed hs.boundary, h.bytes]

/-- `do_op` with the row's opcode in `IR` (rule R176). -/
theorem doOp_eq (h : RowRuns start operands row) {c : Cpu} (hir : c.ir = row.2.1) : doOp c = row.2.2 c := by
  have hc : { c with ir := row.2.1 } = c := by rw [← hir]
  rw [← hc]
  exact h.operation c

end RowRuns

/-- A run that writes twice at one address changes that byte of RAM only (rule R76). -/
theorem onlyRamAt_of_modify {s t : State} {c : Cpu} {bus : List Transfer} {a : Addr} {v w : Byte}
    (h : Ends s t c (busWrite (busWrite s a v) a w) bus) : OnlyRamAt [a] s t := fun b hb =>
  onlyRamAt_of_busWrite_busWrite h b (by simpa using hb)

/-- Settles O20: the runs of the sequences ZP_M and ZPX_M. -/
theorem zeroPageModifyResults : Obligations.ZeroPageModifyResults := by
  refine ⟨?_, ?_⟩
  · rintro s zp hs hinv i op f hmem r rfl
    have hrow : RowRuns 10 [zp] (i, op, f) := by
      refine .of_mem ?_ hmem
      refine ⟨?_, ?_, ?_, ?_, ?_, ?_, ?_, ?_, ?_, ?_, ?_, ?_⟩ <;> exact ⟨rfl, rfl, rfl, fun _ => rfl⟩
    have h := zpM_ends hs hinv.zeroPage (zp := zp) hrow.sequence (hrow.doOp_eq rfl)
    exact ⟨_, hrow.exec_eq hs, h, onlyRamAt_of_modify h⟩
  · rintro s zp hs hinv i op f hmem r rfl
    have hrow : RowRuns 23 [zp] (i, op, f) := by
      refine .of_mem ?_ hmem
      refine ⟨?_, ?_, ?_, ?_, ?_, ?_, ?_, ?_, ?_, ?_, ?_, ?_⟩ <;> exact ⟨rfl, rfl, rfl, fun _ => rfl⟩
    have h := zpxM_ends hs hinv.zeroPage (zp := zp) hrow.sequence (hrow.doOp_eq rfl)
    exact ⟨_, hrow.exec_eq hs, h, onlyRamAt_of_modify h⟩

/-- Settles O21: the run of the sequence ABS_M. -/
theorem absoluteModifyResult : Obligations.AbsoluteModifyResult := by
  rintro s addr hs i op f hmem r rfl
  have hrow : RowRuns 45 [lo addr, hi addr] (i, op, f) := by
    refine .of_mem ?_ hmem
    refine ⟨?_, ?_, ?_, ?_, ?_, ?_, ?_, ?_, ?_, ?_, ?_, ?_⟩ <;> exact ⟨rfl, rfl, rfl, fun _ => rfl⟩
  have h := absM_ends hs (addr := addr) hrow.sequence (hrow.doOp_eq rfl)
  exact ⟨_, hrow.exec_eq hs, h, onlyRamAt_of_modify h⟩

/-- Settles O22: the runs of the sequences ABX_M and ABY_M. -/
theorem absoluteIndexedModifyResult : Obligations.AbsoluteIndexedModifyResult := by
  refine ⟨?_, ?_⟩
  · rintro s addr hs i op f hmem r rfl
    have hrow : RowRuns 61 [lo addr, hi addr] (i, op, f) := by
      refine .of_mem ?_ hmem
      refine ⟨?_, ?_, ?_, ?_, ?_, ?_, ?_, ?_, ?_, ?_, ?_, ?_⟩ <;> exact ⟨rfl, rfl, rfl, fun _ => rfl⟩
    have h := abxM_ends hs (addr := addr) hrow.sequence (hrow.doOp_eq rfl)
    exact ⟨_, hrow.exec_eq hs, h, onlyRamAt_of_modify h⟩
  · rintro s addr hs i op f hmem r rfl
    have hrow : RowRuns 83 [lo addr, hi addr] (i, op, f) := by
      refine .of_mem ?_ hmem
      refine ⟨?_, ?_, ?_, ?_, ?_, ?_⟩ <;> exact ⟨rfl, rfl, rfl, fun _ => rfl⟩
    have h := abyM_ends hs (addr := addr) hrow.sequence (hrow.doOp_eq rfl)
    exact ⟨_, hrow.exec_eq hs, h, onlyRamAt_of_modify h⟩

/-- Settles O23: the runs of the sequences IZX_M and IZY_M. -/
theorem indirectModifyResult : Obligations.IndirectModifyResult := by
  refine ⟨?_, ?_⟩
  · rintro s zp hs hinv i op f hmem r rfl
    have hrow : RowRuns 107 [zp] (i, op, f) := by
      refine .of_mem ?_ hmem
      refine ⟨?_, ?_, ?_, ?_, ?_, ?_⟩ <;> exact ⟨rfl, rfl, rfl, fun _ => rfl⟩
    have h := izxM_ends hs hinv.zeroPage (zp := zp) hrow.sequence (hrow.doOp_eq rfl)
    exact ⟨_, hrow.exec_eq hs, h, onlyRamAt_of_modify h⟩
  · rintro s zp hs hinv i op f hmem r rfl
    have hrow : RowRuns 127 [zp] (i, op, f) := by
      refine .of_mem ?_ hmem
      refine ⟨?_, ?_, ?_, ?_, ?_, ?_⟩ <;> exact ⟨rfl, rfl, rfl, fun _ => rfl⟩
    have h := izyM_ends hs hinv.zeroPage (zp := zp) hrow.sequence (hrow.doOp_eq rfl)
    exact ⟨_, hrow.exec_eq hs, h, onlyRamAt_of_modify h⟩

end Sys2Proof.Machine
end

section
/-! The decoder and the encoder (spec/30_encoding.md rules R130 to R137): decoding the bytes of an instruction gives it back, and
every three bytes start with an instruction. -/

set_option Elab.async false

namespace Sys2Proof.Machine

/-! One lemma for each format (rule R131): what the decoder answers on the format's bytes with any bytes after them. -/

section

variable {op : Byte} (rest : List Byte)

/-- Format F1, the opcode alone: the instruction takes nothing from the bytes after it. -/
theorem decode_opcode {i : Instr} (hcount : operandCount op = 0) (hi : ∀ b1 b2, decodeForm op b1 b2 = i) :
    decode ([op] ++ rest) = .ok (i, rest) := by
  have hlen : ¬ rest.length < operandCount op := by omega
  rw [List.singleton_append, decode, if_neg hlen, hi, hcount, List.drop_zero]

/-- Format F2, one operand byte. -/
theorem decode_opcode_byte {b : Byte} {i : Instr} (hcount : operandCount op = 1) (hi : ∀ b2, decodeForm op b b2 = i) :
    decode ([op, b] ++ rest) = .ok (i, rest) := by
  have hlen : ¬ (b :: rest).length < operandCount op := by simp [hcount]
  show decode (op :: b :: rest) = _
  rw [decode, if_neg hlen, List.getD_cons_zero, hi, hcount, List.drop_one, List.tail_cons]

/-- Format F3, an address, low byte first (rules R72, R132). -/
theorem decode_opcode_address {addr : Addr} {f : Addr → Instr} (hcount : operandCount op = 2)
    (hf : ∀ l h, decodeForm op l h = f (pair h l)) : decode ([op, lo addr, hi addr] ++ rest) = .ok (f addr, rest) := by
  have hlen : ¬ (lo addr :: hi addr :: rest).length < operandCount op := by simp [hcount]
  show decode (op :: lo addr :: hi addr :: rest) = _
  rw [decode, if_neg hlen, List.getD_cons_zero, List.getD_cons_succ, List.getD_cons_zero, hf, pair_hi_lo, hcount]
  rfl

end

/-- Settles O2: each instruction by the lemma of its format. -/
theorem decodeEncode : Obligations.DecodeEncode := by
  intro i rest hi
  cases i with
  | brk | jam02 | php | aslAcc | jam12 | clc | nopImp1A | jam22 | plp | rolAcc | jam32 | sec | nopImp3A | rti | jam42
  | pha | lsrAcc | jam52 | cli | nopImp5A | rts | jam62 | pla | rorAcc | jam72 | sei | nopImp7A | dey | txa | jam92
  | tya | txs | tay | tax | jamB2 | clv | tsx | iny | dex | jamD2 | cld | nopImpDA | inx | nopImpEA | jamF2 | sed
  | nopImpFA =>
    exact decode_opcode rest rfl fun _ _ => rfl
  | oraIzx b | sloIzx b | nopZp04 b | oraZp b | aslZp b | sloZp b | oraImm b | ancImm0B b | bplRel b | oraIzy b
  | sloIzy b | nopZpx14 b | oraZpx b | aslZpx b | sloZpx b | andIzx b | rlaIzx b | bitZp b | andZp b | rolZp b
  | rlaZp b | andImm b | ancImm2B b | bmiRel b | andIzy b | rlaIzy b | nopZpx34 b | andZpx b | rolZpx b | rlaZpx b
  | eorIzx b | sreIzx b | nopZp44 b | eorZp b | lsrZp b | sreZp b | eorImm b | alrImm b | bvcRel b | eorIzy b
  | sreIzy b | nopZpx54 b | eorZpx b | lsrZpx b | sreZpx b | adcIzx b | rraIzx b | nopZp64 b | adcZp b | rorZp b
  | rraZp b | adcImm b | arrImm b | bvsRel b | adcIzy b | rraIzy b | nopZpx74 b | adcZpx b | rorZpx b | rraZpx b
  | nopImm80 b | staIzx b | nopImm82 b | saxIzx b | styZp b | staZp b | stxZp b | saxZp b | nopImm89 b | aneImm b
  | bccRel b | staIzy b | shaIzy b | styZpx b | staZpx b | stxZpy b | saxZpy b | ldyImm b | ldaIzx b | ldxImm b
  | laxIzx b | ldyZp b | ldaZp b | ldxZp b | laxZp b | ldaImm b | lxaImm b | bcsRel b | ldaIzy b | laxIzy b | ldyZpx b
  | ldaZpx b | ldxZpy b | laxZpy b | cpyImm b | cmpIzx b | nopImmC2 b | dcpIzx b | cpyZp b | cmpZp b | decZp b
  | dcpZp b | cmpImm b | sbxImm b | bneRel b | cmpIzy b | dcpIzy b | nopZpxD4 b | cmpZpx b | decZpx b | dcpZpx b
  | cpxImm b | sbcIzx b | nopImmE2 b | iscIzx b | cpxZp b | sbcZp b | incZp b | iscZp b | sbcImm b | usbcImm b
  | beqRel b | sbcIzy b | iscIzy b | nopZpxF4 b | sbcZpx b | incZpx b | iscZpx b =>
    exact decode_opcode_byte rest rfl fun _ => rfl
  | nopAbs addr | oraAbs addr | aslAbs addr | sloAbs addr | oraAby addr | sloAby addr | nopAbx1C addr | oraAbx addr
  | aslAbx addr | sloAbx addr | jsrAbs addr | bitAbs addr | andAbs addr | rolAbs addr | rlaAbs addr | andAby addr
  | rlaAby addr | nopAbx3C addr | andAbx addr | rolAbx addr | rlaAbx addr | jmpAbs addr | eorAbs addr | lsrAbs addr
  | sreAbs addr | eorAby addr | sreAby addr | nopAbx5C addr | eorAbx addr | lsrAbx addr | sreAbx addr | jmpInd addr
  | adcAbs addr | rorAbs addr | rraAbs addr | adcAby addr | rraAby addr | nopAbx7C addr | adcAbx addr | rorAbx addr
  | rraAbx addr | styAbs addr | staAbs addr | stxAbs addr | saxAbs addr | staAby addr | tasAby addr | shyAbx addr
  | staAbx addr | shxAby addr | shaAby addr | ldyAbs addr | ldaAbs addr | ldxAbs addr | laxAbs addr | ldaAby addr
  | lasAby addr | ldyAbx addr | ldaAbx addr | ldxAby addr | laxAby addr | cpyAbs addr | cmpAbs addr | decAbs addr
  | dcpAbs addr | cmpAby addr | dcpAby addr | nopAbxDC addr | cmpAbx addr | decAbx addr | dcpAbx addr | cpxAbs addr
  | sbcAbs addr | incAbs addr | iscAbs addr | sbcAby addr | iscAby addr | nopAbxFC addr | sbcAbx addr | incAbx addr
  | iscAbx addr =>
    exact decode_opcode_address rest rfl fun _ _ => rfl
  | reset => exact absurd hi (by decide)

/-- Three bytes with any bytes after them hold an instruction (rules R130, R131). -/
theorem decode_three_append (op b1 b2 : Byte) (rest : List Byte) :
    decode (op :: b1 :: b2 :: rest) = .ok (decodeForm op b1 b2, (b1 :: b2 :: rest).drop (operandCount op)) := by
  have hlen : ¬ (b1 :: b2 :: rest).length < operandCount op := by
    have := operandCount_cases op
    simp only [List.length_cons]
    omega
  exact if_neg hlen

/-- The bytes of an instruction and the bytes it leaves over are the bytes it was read from. -/
theorem formBytes_append_drop (op b1 b2 : Byte) (rest : List Byte) :
    formBytes op b1 b2 ++ (b1 :: b2 :: rest).drop (operandCount op) = op :: b1 :: b2 :: rest := by
  rcases operandCount_cases op with hc | hc | hc
  · rw [formBytes_zero _ _ hc, hc]; rfl
  · rw [formBytes_one _ _ hc, hc]; rfl
  · rw [formBytes_two _ _ hc, hc]; rfl

/-- Settles O3: the decoder's answer encodes to the bytes it was read from, and `exec` answers a next state for every
instruction. -/
theorem everyByteIsAnOpcode : Obligations.EveryByteIsAnOpcode := by
  intro op b1 b2 rest
  refine ⟨decodeForm op b1 b2, _, decode_three_append op b1 b2 rest, decodeForm_wellFormed op b1 b2, ?_, exec_next _⟩
  rw [encode_decodeForm, formBytes_append_drop]

/-- Settles O1: the nine words are the encodings of their instructions. -/
theorem writtenWordsDecode : Obligations.WrittenWordsDecode :=
  ⟨decodeEncode (.ldaImm 0x80) [] rfl, decodeEncode (.staAbs 0x1234) [] rfl, decodeEncode (.adcIzy 0x20) [0xFF] rfl,
   decodeEncode .aslAcc [] rfl, decodeEncode (.bneRel 0xFE) [] rfl, decodeEncode (.jmpInd 0x20FF) [] rfl,
   decodeEncode .pha [] rfl, decodeEncode (.shxAby 0x12F0) [] rfl, decodeEncode .jamF2 [] rfl⟩

end Sys2Proof.Machine
end

section
/-! The instructions that read an operand (spec/40_engine.md rules R212 to R219): each is the run of its addressing mode's
sequence, with its own operation in the last cycle. -/

set_option Elab.async false

namespace Sys2Proof.Machine

/-- A row of a table whose rows agree with the model, each of them by the definitions. -/
theorem RowRuns.of_table {start : Cursor} {operands : List Byte} {rows : List Row} {row : Row} (hmem : row ∈ rows)
    (h : rows.Forall (RowRuns start operands) := by and_intros <;> exact ⟨rfl, rfl, rfl, fun _ => rfl⟩) :
    RowRuns start operands row := .of_mem h hmem

/-- A run that ends with `do_op` ends with the operation of the instruction's row. -/
theorem RowRuns.ends_operation {start : Cursor} {operands : List Byte} {row : Row} (h : RowRuns start operands row)
    {s t m : State} {c : Cpu} {bus : List Transfer} (hir : c.ir = row.2.1) (hr : Ends s t (doOp c) m bus) :
    Ends s t (row.2.2 c) m bus := h.doOp_eq hir ▸ hr

/-- Settles O10: the runs of the sequences ZP_R and ABS_R. -/
theorem directReadResult : Obligations.DirectReadResult := by
  refine ⟨?_, ?_⟩
  · intro s zp hs hinv i op f hmem
    have hrow : RowRuns 4 [zp] (i, op, f) := .of_table hmem
    exact ⟨_, hrow.exec_eq hs, hrow.ends_operation rfl (zpR_ends hs hinv.zeroPage hrow.sequence)⟩
  · intro s addr hs i op f hmem
    have hrow : RowRuns 37 [lo addr, hi addr] (i, op, f) := .of_table hmem
    exact ⟨_, hrow.exec_eq hs, hrow.ends_operation rfl (absR_ends hs hrow.sequence)⟩

/-- Settles O11: the runs of the sequences ZPX_R and ZPY_R. -/
theorem zeroPageIndexedReadResult : Obligations.ZeroPageIndexedReadResult := by
  refine ⟨?_, ?_⟩
  · intro s zp hs hinv i op f hmem
    have hrow : RowRuns 15 [zp] (i, op, f) := .of_table hmem
    exact ⟨_, hrow.exec_eq hs, hrow.ends_operation rfl (zpxR_ends hs hinv.zeroPage hrow.sequence)⟩
  · intro s zp hs hinv i op f hmem
    have hrow : RowRuns 29 [zp] (i, op, f) := .of_table hmem
    exact ⟨_, hrow.exec_eq hs, hrow.ends_operation rfl (zpyR_ends hs hinv.zeroPage hrow.sequence)⟩

/-- Settles O12: the runs of the sequences ABX_R and ABY_R, with and without a page cross. -/
theorem absoluteIndexedReadResult : Obligations.AbsoluteIndexedReadResult := by
  refine ⟨?_, ?_⟩
  · intro s addr hs i op f hmem
    have hrow : RowRuns 51 [lo addr, hi addr] (i, op, f) := .of_table hmem
    refine ⟨_, hrow.exec_eq hs, ?_⟩
    split
    next hcross => exact hrow.ends_operation rfl (abxR_cross_ends hs hrow.sequence hcross)
    next hsame =>
      exact hrow.ends_operation rfl (abxR_same_ends hs hrow.sequence (Bool.eq_false_of_not_eq_true hsame))
  · intro s addr hs i op f hmem
    have hrow : RowRuns 73 [lo addr, hi addr] (i, op, f) := .of_table hmem
    refine ⟨_, hrow.exec_eq hs, ?_⟩
    split
    next hcross => exact hrow.ends_operation rfl (abyR_cross_ends hs hrow.sequence hcross)
    next hsame =>
      exact hrow.ends_operation rfl (abyR_same_ends hs hrow.sequence (Bool.eq_false_of_not_eq_true hsame))

/-- Settles O13: the run of the sequence IZX_R. -/
theorem indexedIndirectReadResult : Obligations.IndexedIndirectReadResult := by
  intro s zp hs hinv i op f hmem
  have hrow : RowRuns 95 [zp] (i, op, f) := .of_table hmem
  exact ⟨_, hrow.exec_eq hs, hrow.ends_operation rfl (izxR_ends hs hinv.zeroPage hrow.sequence)⟩

/-- Settles O14: the run of the sequence IZY_R, with and without a page cross. -/
theorem indirectIndexedReadResult : Obligations.IndirectIndexedReadResult := by
  intro s zp hs hinv i op f hmem
  have hrow : RowRuns 115 [zp] (i, op, f) := .of_table hmem
  refine ⟨_, hrow.exec_eq hs, ?_⟩
  split
  next hcross => exact hrow.ends_operation rfl (izyR_cross_ends hs hinv.zeroPage hrow.sequence hcross)
  next hsame =>
    exact hrow.ends_operation rfl
      (izyR_same_ends hs hinv.zeroPage hrow.sequence (Bool.eq_false_of_not_eq_true hsame))

end Sys2Proof.Machine
end

section
/-! The instructions that store a register (spec/40_engine.md rules R177, R212 to R220): each is the run of its addressing mode's
sequence, which puts the stored byte into `D` and writes it in the last cycle. -/

set_option Elab.async false

namespace Sys2Proof.Machine

/-- A row of a statement's table of stores agrees with the model: the instruction's bytes are its opcode and `operands`, the
opcode starts the sequence at record `start`, and the stored value is the row's, in any engine with the same data
registers (rules R134, R143, R177). -/
structure StoreRuns (start : Cursor) (operands : List Byte) (row : StoreRow) : Prop where
  wellFormed : row.1.wellFormed = true
  bytes : encode row.1 = row.2.1 :: operands
  sequence : opcStart row.2.1 = start
  value : ∀ c e : Cpu, storeValue { c with ir := row.2.1, a := e.a, x := e.x, y := e.y } = some (row.2.2 e)

namespace StoreRuns

variable {start : Cursor} {operands : List Byte} {row : StoreRow}

/-- A row of a table whose rows agree with the model, each of them by the definitions. -/
theorem of_table {rows : List StoreRow} (hmem : row ∈ rows)
    (h : rows.Forall (StoreRuns start operands) := by and_intros <;> exact ⟨rfl, rfl, rfl, fun _ _ => rfl⟩) :
    StoreRuns start operands row := List.forall_iff_forall_mem.mp h row hmem

/-- At a boundary the instruction is the run of its bytes (rule R231). -/
theorem exec_eq (h : StoreRuns start operands row) {s : State} (hs : s.Ready) :
    exec row.1 s = .next (runSequence (row.2.1 :: operands) s) := by
  rw [exec_boundary h.wellFormed hs.boundary, h.bytes]

/-- `st_reg` with the row's opcode in `IR` and the data registers of `e` (rule R177). -/
theorem stReg_eq (h : StoreRuns start operands row) {c e : Cpu} (hir : c.ir = row.2.1) (ha : c.a = e.a) (hx : c.x = e.x)
    (hy : c.y = e.y) : stReg c = { c with d := row.2.2 e } := by
  have hc : { c with ir := row.2.1, a := e.a, x := e.x, y := e.y } = c := by rw [← hir, ← ha, ← hx, ← hy]
  refine Machine.stReg_eq ?_
  rw [← h.value c e, hc]

end StoreRuns

/-- Settles O15: the runs of the sequences ZP_W and ABS_W. -/
theorem directStoreResult : Obligations.DirectStoreResult := by
  refine ⟨?_, ?_⟩
  · intro s zp hs hinv i op v hmem
    have hrow : StoreRuns 7 [zp] (i, op, v) := .of_table hmem
    have h := zpW_ends hs hinv.zeroPage (zp := zp) hrow.sequence (hrow.stReg_eq (e := s.cpu) rfl rfl rfl rfl)
    exact ⟨_, hrow.exec_eq hs, h, onlyRamAt_of_busWrite h⟩
  · intro s addr hs i op v hmem
    have hrow : StoreRuns 41 [lo addr, hi addr] (i, op, v) := .of_table hmem
    have h := absW_ends hs (addr := addr) hrow.sequence (hrow.stReg_eq (e := s.cpu) rfl rfl rfl rfl)
    exact ⟨_, hrow.exec_eq hs, h, onlyRamAt_of_busWrite h⟩

/-- Settles O16: the runs of the sequences ZPX_W and ZPY_W. -/
theorem zeroPageIndexedStoreResult : Obligations.ZeroPageIndexedStoreResult := by
  refine ⟨?_, ?_⟩
  · intro s zp hs hinv i op v hmem
    have hrow : StoreRuns 19 [zp] (i, op, v) := .of_table hmem
    have h := zpxW_ends hs hinv.zeroPage (zp := zp) hrow.sequence (hrow.stReg_eq (e := s.cpu) rfl rfl rfl rfl)
    exact ⟨_, hrow.exec_eq hs, h, onlyRamAt_of_busWrite h⟩
  · intro s zp hs hinv i op v hmem
    have hrow : StoreRuns 33 [zp] (i, op, v) := .of_table hmem
    have h := zpyW_ends hs hinv.zeroPage (zp := zp) hrow.sequence (hrow.stReg_eq (e := s.cpu) rfl rfl rfl rfl)
    exact ⟨_, hrow.exec_eq hs, h, onlyRamAt_of_busWrite h⟩

/-- Settles O17: the runs of the sequences ABX_W and ABY_W. -/
theorem absoluteIndexedStoreResult : Obligations.AbsoluteIndexedStoreResult := by
  refine ⟨?_, ?_⟩
  · intro s addr hs i op v hmem
    have hrow : StoreRuns 56 [lo addr, hi addr] (i, op, v) := .of_table hmem
    have h := abxW_ends hs (addr := addr) hrow.sequence (hrow.stReg_eq (e := s.cpu) rfl rfl rfl rfl)
    exact ⟨_, hrow.exec_eq hs, h, onlyRamAt_of_busWrite h⟩
  · intro s addr hs i op v hmem
    have hrow : StoreRuns 78 [lo addr, hi addr] (i, op, v) := .of_table hmem
    have h := abyW_ends hs (addr := addr) hrow.sequence (hrow.stReg_eq (e := s.cpu) rfl rfl rfl rfl)
    exact ⟨_, hrow.exec_eq hs, h, onlyRamAt_of_busWrite h⟩

/-- Settles O18: the runs of the sequences IZX_W and IZY_W. -/
theorem indirectStoreResult : Obligations.IndirectStoreResult := by
  refine ⟨?_, ?_⟩
  · intro s zp hs hinv i op v hmem
    have hrow : StoreRuns 101 [zp] (i, op, v) := .of_table hmem
    have h := izxW_ends hs hinv.zeroPage (zp := zp) hrow.sequence (hrow.stReg_eq (e := s.cpu) rfl rfl rfl rfl)
    exact ⟨_, hrow.exec_eq hs, h, onlyRamAt_of_busWrite h⟩
  · intro s zp hs hinv i op v hmem
    have hrow : StoreRuns 121 [zp] (i, op, v) := .of_table hmem
    have h := izyW_ends hs hinv.zeroPage (zp := zp) hrow.sequence (hrow.stReg_eq (e := s.cpu) rfl rfl rfl rfl)
    exact ⟨_, hrow.exec_eq hs, h, onlyRamAt_of_busWrite h⟩

end Sys2Proof.Machine
end

section
/-! The halt opcodes and the halted engine (spec/40_engine.md rule R206, spec/60_exceptions.md rule R450). -/

set_option Elab.async false

namespace Sys2Proof.Machine

/-- The quiet cycle in the halt slot: the cursor stays, and only `D`, the delay machines and the remembered NMI level can change
(rules R173, R206). -/
theorem tick_halted {c : Cpu} (h : c.mcp = hltSlot) (b : Byte) :
    setLevels false false (tick (c.setCell .d b)) =
      { c with d := b, nmiT := c.nmiT.advance, irqT := .idle, nmiLine := false } := by
  have hm : romAt (c.setCell .d b).mcp = ⟨.pc, .d, .read, false, .hlt⟩ := (congrArg romAt h).trans rfl
  have htick : tick (c.setCell .d b) = advanceDelays { c with d := b } := by
    rw [tick, hm]
    simp [tagAction, retire, Cpu.setCell]
  rw [htick, setLevels_quiet]
  rfl

/-- A quiet run from the halt slot is one cycle that reads at `PC` into `D` (rules R206, R450). -/
theorem halted_ends {s : State} (h : s.cpu.mcp = hltSlot) (hq : s.inputs = []) :
    Ends s (runSequence [] s)
      { s.cpu with d := s.readAt 0 s.cpu.pc, nmiT := s.cpu.nmiT.advance, irqT := .idle, nmiLine := false }
      s [(s.cpu.pc, .read, s.readAt 0 s.cpu.pc)] := by
  have hm : romAt s.cpu.mcp = ⟨.pc, .d, .read, false, .hlt⟩ := by rw [h]; rfl
  have hcycle := (Ends.start hq).read [] hm (b := s.readAt 0 s.cpu.pc) (readByte_nil _ _ _ _)
  rw [tick_halted h] at hcycle
  have hend : (isBoundary (systemCycle [] (clearTrace s)).cpu.mcp || isHalted (systemCycle [] (clearTrace s)).cpu.mcp)
      = true := by rw [hcycle.cpu, h]; rfl
  unfold runSequence
  rw [enoughFuel_quiet hq, runCycles_end 8 [] (t := clearTrace s) hq hend]
  exact hcycle

/-- Settles O35: the run of the sequence JAM, and the cycle in the halt slot. -/
theorem jamResult : Obligations.JamResult := by
  refine ⟨fun s hs i op f hmem => ?_, fun s hh hq => ?_⟩
  · have hrow : RowRuns 205 [] (i, op, f) := .of_table hmem
    have hf : f = fun c => c := by
      refine (List.forall_iff_forall_mem (p := fun row : Row => row.2.2 = fun c => c)).mp ?_ _ hmem
      and_intros <;> rfl
    subst hf
    have h := jam_ends hs hrow.sequence
    exact ⟨_, hrow.exec_eq hs, h, by rw [h.cpu]; rfl⟩
  · have hm : s.cpu.mcp = hltSlot := of_decide_eq_true hh
    have hb : ¬ isBoundary s.cpu.mcp = true := by rw [hm]; decide
    exact ⟨_, step_off_boundary hb, halted_ends hm hq⟩

end Sys2Proof.Machine
end

section
/-! The instructions without a memory operand, and the jumps (spec/40_engine.md rules R184 to R186, R195, R202 to R204, R210,
R211): each is the run of its own sequence. -/

set_option Elab.async false

namespace Sys2Proof.Machine

/-- Settles O8: the run of the sequence IMP. -/
theorem impliedResult : Obligations.ImpliedResult := by
  intro s hs i op f hmem
  have hrow : RowRuns 0 [] (i, op, f) := .of_table hmem
  exact ⟨_, hrow.exec_eq hs, hrow.ends_operation rfl (imp_ends hs hrow.sequence)⟩

/-- Settles O9: the run of the sequence IMM. -/
theorem immediateResult : Obligations.ImmediateResult := by
  intro s v hs i op f hmem
  have hrow : RowRuns 2 [v] (i, op, f) := .of_table hmem
  exact ⟨_, hrow.exec_eq hs, hrow.ends_operation rfl (imm_ends hs hrow.sequence)⟩

/-- Settles O24: the runs of the sequences JMP_ABS and JMP_IND. -/
theorem jumpResult : Obligations.JumpResult :=
  ⟨fun _ _ hs => ⟨_, exec_boundary rfl hs.boundary, jmpAbs_ends hs (op := 0x4C) (by decide)⟩,
   fun _ _ hs => ⟨_, exec_boundary rfl hs.boundary, jmpInd_ends hs (op := 0x6C) (by decide)⟩⟩

/-- Settles O28: the runs of the sequences PLA and PLP; the record PLP ends at forces `U` and `B` in what `D` holds. -/
theorem pullResult : Obligations.PullResult := by
  refine ⟨fun s hs => ?_, fun s hs => ?_⟩
  · have hrow : RowRuns 173 [] (.pla, 0x68, opPla) := ⟨rfl, rfl, rfl, fun _ => rfl⟩
    exact ⟨_, hrow.exec_eq hs, hrow.ends_operation rfl (pla_ends hs hrow.sequence)⟩
  · have h := plp_ends hs (op := 0x28) (by decide)
    exact ⟨_, exec_boundary rfl hs.boundary, h, (congrArg entryP h.cpu).trans rfl⟩

/-- Settles O29: the runs of the sequences CLI and SEI; the records they end at write `I`. -/
theorem maskInstructionResult : Obligations.MaskInstructionResult := by
  refine ⟨fun s hs => ?_, fun s hs => ?_⟩
  · have h := cli_ends hs (op := 0x58) (by decide)
    exact ⟨_, exec_boundary rfl hs.boundary, h, (congrArg entryP h.cpu).trans rfl⟩
  · have h := sei_ends hs (op := 0x78) (by decide)
    exact ⟨_, exec_boundary rfl hs.boundary, h, (congrArg entryP h.cpu).trans rfl⟩

end Sys2Proof.Machine
end

section
/-! The conditional branches (spec/40_engine.md rules R188 to R191, R221, spec/44_flow.md rules R325 to R333): each is one of
three runs, by its condition and by the page of its target. -/

set_option Elab.async false

namespace Sys2Proof.Machine

/-- A row of the table of branches agrees with the model: the opcode starts a sequence whose first record reads the
displacement and branches on the row's condition (rules R134, R143, R188). -/
structure BranchRuns (disp : Byte) (row : BranchRow) (tag : Tag) : Prop where
  wellFormed : row.1.wellFormed = true
  bytes : encode row.1 = [row.2.1, disp]
  record : romAt (opcStart row.2.1) = ⟨.pc, .d, .read, true, tag⟩
  inside : (isBoundary (opcStart row.2.1) || isHalted (opcStart row.2.1)) = false
  tests : tag ≠ .nmop
  condition : ∀ c, tagAction tag c = branchEntry (row.2.2 c.p) c

/-- A row of a table whose rows agree with the model, each of them by the definitions. -/
theorem BranchRuns.of_table {disp : Byte} {rows : List BranchRow} {row : BranchRow} (hmem : row ∈ rows)
    (h : rows.Forall fun row => ∃ tag, BranchRuns disp row tag := by
      and_intros <;> exact ⟨_, rfl, rfl, rfl, rfl, Tag.noConfusion, fun _ => rfl⟩) :
    ∃ tag, BranchRuns disp row tag := List.forall_iff_forall_mem.mp h row hmem

/-- Settles O30: the three runs of a branch, by its condition and by the page of its target. -/
theorem branchResult : Obligations.BranchResult := by
  intro s disp hs i op taken hmem
  obtain ⟨tag, hrow⟩ : ∃ tag, BranchRuns disp (i, op, taken) tag := BranchRuns.of_table hmem
  obtain ⟨hwf, hbytes, hrecord, hinside, htests, hcond⟩ := hrow
  refine ⟨_, (exec_boundary hwf hs.boundary).trans (by rw [hbytes]), ?_⟩
  split
  next hnot => exact branch_notTaken_ends hs _ rfl hinside hrecord htests hcond hnot
  next htaken =>
    have htaken := Bool.eq_true_of_not_eq_false htaken
    split
    next hsame => exact branch_samePage_ends hs _ rfl hinside hrecord htests hcond htaken hsame
    next hother => exact branch_otherPage_ends hs _ rfl hinside hrecord htests hcond htaken hother

end Sys2Proof.Machine
end

section
/-! The stores that mask the high byte of the base address (spec/40_engine.md rule R178, spec/46_undocumented.md rules R386 to
R389). -/

set_option Elab.async false

namespace Sys2Proof.Machine

/-- A row of the tables of SHA, SHX, SHY and TAS agrees with the model: the instruction's bytes are its opcode and `operands`,
the opcode starts the sequence at record `start`, and the register is the row's in any engine with the same data registers
(rules R134, R143, R178). -/
structure MaskedStoreRuns (start : Cursor) (operands : List Byte) (row : StoreRow) : Prop where
  wellFormed : row.1.wellFormed = true
  bytes : encode row.1 = row.2.1 :: operands
  sequence : opcStart row.2.1 = start
  register : ∀ c e : Cpu, shRegister { c with ir := row.2.1, a := e.a, x := e.x, y := e.y } = some (row.2.2 e)

/-- TAS has one opcode (rule R134). -/
theorem mnemonicOf_eq_tas_iff : ∀ op : Byte, mnemonicOf op = .tas ↔ op = 0x9B := by decide +kernel

namespace MaskedStoreRuns

variable {start : Cursor} {operands : List Byte} {row : StoreRow}

/-- A row of a table whose rows agree with the model, each of them by the definitions. -/
theorem of_table {rows : List StoreRow} (hmem : row ∈ rows)
    (h : rows.Forall (MaskedStoreRuns start operands) := by
      and_intros <;> exact ⟨rfl, rfl, rfl, fun _ _ => rfl⟩) :
    MaskedStoreRuns start operands row := List.forall_iff_forall_mem.mp h row hmem

/-- At a boundary the instruction is the run of its bytes (rule R231). -/
theorem exec_eq (h : MaskedStoreRuns start operands row) {s : State} (hs : s.Ready) :
    exec row.1 s = .next (runSequence (row.2.1 :: operands) s) := by
  rw [exec_boundary h.wellFormed hs.boundary, h.bytes]

/-- `st_sh` after the index addition to `base` (rule R178): the value is masked with the high byte of `base` plus 1, and is
the high byte of the write address too when the addition crosses a page. -/
theorem stSh_eq (h : MaskedStoreRuns start operands row) {c e : Cpu} {base : Addr} {i v : Byte} {ea : Addr}
    (hir : c.ir = row.2.1) (ha : c.a = e.a) (hx : c.x = e.x) (hy : c.y = e.y)
    (ha1 : c.a1 = eaUncarried base i) (ha2 : c.a2 = eaIndexed base i) (hv : v = row.2.2 e &&& (hi base + 1))
    (hea : ea = if pageCross base i then setHi (eaIndexed base i) v else eaIndexed base i) :
    stSh c = { c with sp := if row.2.1 = 0x9B then setLo c.sp (c.a &&& c.x) else c.sp, d := v, a2 := ea } := by
  have hc : { c with ir := row.2.1, a := e.a, x := e.x, y := e.y } = c := by rw [← hir, ← ha, ← hx, ← hy]
  have hreg : shRegister c = some (row.2.2 e) := by rw [← h.register c e, hc]
  have hbase : hi c.a1 = hi base := by rw [ha1]; exact hi_setLo _ _
  have hcross : hi c.a2 = hi base ↔ ¬ pageCross base i = true := by rw [ha2]; simp [pageCross, eaIndexed]
  rw [Machine.stSh_eq hreg, hbase, ← hv, hea, ha2]
  simp only [hir, mnemonicOf_eq_tas_iff, ← ha2, hcross, ite_not]

end MaskedStoreRuns

/-- Settles O19: the runs of the sequences ABX_SH, ABY_SH and IZY_SH. -/
theorem highByteMaskedStoreResult : Obligations.HighByteMaskedStoreResult := by
  refine ⟨?_, ?_, ?_⟩
  · intro s addr hs i op r hmem v ea hv hea
    have hrow : MaskedStoreRuns 68 [lo addr, hi addr] (i, op, r) := .of_table hmem
    have h := abxSh_ends hs hrow.sequence (hrow.stSh_eq (e := s.cpu) rfl rfl rfl rfl rfl rfl hv hea)
    exact ⟨_, hrow.exec_eq hs, h, onlyRamAt_of_busWrite h⟩
  · intro s addr hs i op r hmem v ea hv hea
    have hrow : MaskedStoreRuns 90 [lo addr, hi addr] (i, op, r) := .of_table hmem
    have h := abySh_ends hs hrow.sequence (hrow.stSh_eq (e := s.cpu) rfl rfl rfl rfl rfl rfl hv hea)
    exact ⟨_, hrow.exec_eq hs, h, onlyRamAt_of_busWrite h⟩
  · intro s zp hs hinv i op r hmem v ea hv hea
    have hrow : MaskedStoreRuns 135 [zp] (i, op, r) := .of_table hmem
    have h := izySh_ends hs hinv.zeroPage hrow.sequence (hrow.stSh_eq (e := s.cpu) rfl rfl rfl rfl rfl rfl hv hea)
    exact ⟨_, hrow.exec_eq hs, h, onlyRamAt_of_busWrite h⟩

end Sys2Proof.Machine
end

section
/-! The delay machines and the poll (spec/40_engine.md rules R173, R191, R201 to R205, spec/60_exceptions.md rules R420 to R425):
what a tag, the tick and the setters do to the machines, in any cycle that has the bus. -/

set_option Elab.async false

namespace Sys2Proof.Machine

/-! The tags: `nmiLine` and `IRQ_T` are left alone by all of them, `NMI_T` by all but `brk_vec` (rule R199). -/

/-- Both delay machines and the remembered NMI level of `e` are those of `c`. -/
structure SameRequests (c e : Cpu) : Prop where
  nmiT : e.nmiT = c.nmiT
  irqT : e.irqT = c.irqT
  nmiLine : e.nmiLine = c.nmiLine

theorem SameRequests.refl (c : Cpu) : SameRequests c c := ⟨rfl, rfl, rfl⟩

theorem SameRequests.trans {c e g : Cpu} (h : SameRequests c e) (k : SameRequests e g) : SameRequests c g :=
  ⟨k.nmiT.trans h.nmiT, k.irqT.trans h.irqT, k.nmiLine.trans h.nmiLine⟩

theorem stReg_sameRequests (c : Cpu) : SameRequests c (stReg c) := by
  unfold stReg
  split <;> exact ⟨rfl, rfl, rfl⟩

theorem stSh_sameRequests (c : Cpu) : SameRequests c (stSh c) := by
  cases hr : shRegister c with
  | none => unfold stSh; rw [hr]; exact .refl c
  | some r => rw [stSh_eq hr]; exact ⟨rfl, rfl, rfl⟩

theorem absIndex_sameRequests (i : Byte) (c : Cpu) : SameRequests c (absIndex i c) := by
  unfold absIndex
  dsimp only
  split <;> exact ⟨rfl, rfl, rfl⟩

theorem branchEntry_sameRequests (taken : Bool) (c : Cpu) : SameRequests c (branchEntry taken c) := by
  unfold branchEntry
  dsimp only
  split
  · split <;> exact ⟨rfl, rfl, rfl⟩
  · exact ⟨rfl, rfl, rfl⟩

/-- Dispatch leaves what its own flag write leaves (rule R201). -/
theorem dispatchCommon_sameRequests (start : Byte → Cursor) (poll : Bool) {fix : Cpu → Cpu} {c : Cpu}
    (h : SameRequests c (fix c)) : SameRequests c (dispatchCommon start poll fix c) := by
  obtain ⟨hnmi, hirq, hline⟩ := h
  exact ⟨by simp only [dispatchCommon, apply_ite Cpu.nmiT, ite_self, hnmi],
    by simp only [dispatchCommon, apply_ite Cpu.irqT, ite_self, hirq],
    by simp only [dispatchCommon, apply_ite Cpu.nmiLine, ite_self, hline]⟩

/-- No tag but `brk_vec` changes a delay machine or the remembered NMI level (rules R175 to R206). -/
theorem tagAction_sameRequests {t : Tag} (h : t ≠ .brkVec) (c : Cpu) : SameRequests c (tagAction t c) := by
  cases t with
  | brkVec => exact absurd rfl h
  | doOp => exact ⟨doOp_nmiT c, doOp_irqT c, doOp_nmiLine c⟩
  | stReg => exact stReg_sameRequests c
  | stSh => exact stSh_sameRequests c
  | zpXSt => exact .trans (e := zpX c) ⟨rfl, rfl, rfl⟩ (stReg_sameRequests _)
  | zpYSt => exact .trans (e := zpY c) ⟨rfl, rfl, rfl⟩ (stReg_sameRequests _)
  | absX | absY => exact absIndex_sameRequests _ c
  | bpl | bmi | bvc | bvs | bcc | bcs | bne | beq => exact branchEntry_sameRequests _ c
  | brk => rw [tagAction, brkTag_eq]; exact ⟨rfl, rfl, rfl⟩
  | dispatch | dispatchCli | dispatchSei | dispatchPlp | dispatchBrk =>
    rw [tagAction]
    refine dispatchCommon_sameRequests _ _ ?_
    exact ⟨rfl, rfl, rfl⟩
  | _ => exact ⟨rfl, rfl, rfl⟩

/-- `brk_vec` leaves the IRQ machine and the remembered NMI level alone (rule R199). -/
theorem tagAction_irqT (t : Tag) (c : Cpu) : (tagAction t c).irqT = c.irqT := by
  by_cases h : t = .brkVec
  · rw [h, tagAction, brkVec_eq]
  · exact (tagAction_sameRequests h c).irqT

theorem tagAction_nmiLine (t : Tag) (c : Cpu) : (tagAction t c).nmiLine = c.nmiLine := by
  by_cases h : t = .brkVec
  · rw [h, tagAction, brkVec_eq]
  · exact (tagAction_sameRequests h c).nmiLine

/-! The tick (rule R173): both machines advance in every record but the hold record. -/

/-- The hold record of a branch taken within its page is the one record with tag `hold_ints` (rules R144, R191). -/
theorem tag_holdInts_iff : ∀ m : Cursor, (romAt m).tag = .holdInts ↔ m = 203 := by decide +kernel

theorem tick_irqT (c : Cpu) : (tick c).irqT = if c.mcp = 203 then c.irqT else c.irqT.advance := by
  unfold tick
  dsimp only
  rw [apply_ite Cpu.irqT, advanceDelays_irqT, tagAction_irqT, retire_irqT]
  simp only [tag_holdInts_iff]

theorem tick_nmiT {c : Cpu} (h : (romAt c.mcp).tag ≠ .brkVec) :
    (tick c).nmiT = if c.mcp = 203 then c.nmiT else c.nmiT.advance := by
  unfold tick
  dsimp only
  rw [apply_ite Cpu.nmiT, advanceDelays_nmiT, (tagAction_sameRequests h _).nmiT, retire_nmiT]
  simp only [tag_holdInts_iff]

theorem tick_nmiLine (c : Cpu) : (tick c).nmiLine = c.nmiLine := by
  unfold tick
  dsimp only
  rw [apply_ite Cpu.nmiLine, advanceDelays_nmiLine, tagAction_nmiLine, retire_nmiLine, ite_self]

/-- A read into a cell changes none of the interrupt controller. -/
theorem setCell_sameRequests (c : Cpu) (r : Cell) (b : Byte) : SameRequests c (c.setCell r b) := by
  cases r <;> exact ⟨rfl, rfl, rfl⟩

/-- A cycle that has the bus is a tick of the engine, after a read into one of its cells or after a write. -/
theorem ticked_of_not_withheld {s : State} (h : (nextInput s).bw = false) (feed : List Byte) :
    ∃ c : Cpu, s.ticked feed = tick c ∧ c.mcp = s.cpu.mcp ∧ SameRequests s.cpu c := by
  rw [← accessed_cpu, accessed_of_not_withheld h]
  cases hrw : (romAt s.cpu.mcp).rw with
  | read =>
    obtain ⟨b, tr, e⟩ := cpuCycle_of_read feed (nextInput s) hrw
    exact ⟨_, by rw [e], setCell_mcp _ _ _, setCell_sameRequests _ _ _⟩
  | write =>
    obtain ⟨a, v, tr, e⟩ := cpuCycle_of_write feed (nextInput s) hrw
    exact ⟨_, by rw [e], rfl, .refl _⟩

/-! The setters (rules R420, R421), in one record update. -/

theorem setLevels_frame (irq nmi : Bool) (c : Cpu) :
    setLevels irq nmi c = { c with nmiT := (setLevels irq nmi c).nmiT, irqT := (setLevels irq nmi c).irqT, nmiLine := nmi } := by
  rw [setLevels, setNmi_eq, setIrq_frame]

/-- With the level high, an IRQ request that is there stays (rule R420). -/
theorem setLevels_irqT_high (nmi : Bool) {c : Cpu} (h : c.irqT ≠ .idle) : (setLevels true nmi c).irqT = c.irqT := by
  rw [setLevels, setNmi_eq]
  dsimp only
  rw [setIrq_irqT, if_pos rfl, if_neg h]

/-- The NMI machine after the setters: requested by a rising level when idle (rule R421). -/
theorem setLevels_nmiT (irq nmi : Bool) (c : Cpu) :
    (setLevels irq nmi c).nmiT = if nmi = true ∧ c.nmiLine = false ∧ c.nmiT = .idle then .requested else c.nmiT := by
  rw [setLevels, setNmi_eq, setIrq_frame]

/-- Settles O48: the tick advances both machines but in record 203, and the setters keep a request that is there. -/
theorem branchHold : Obligations.BranchHold := by
  intro feed s hbw
  obtain ⟨c, htick, hmcp, hsame⟩ := ticked_of_not_withheld hbw feed
  rw [systemCycle_cpu, htick]
  refine ⟨fun hirq hreq => ?_, fun htag hreq => ?_⟩
  · have hc : (tick c).irqT = if s.cpu.mcp = 203 then .requested else .usable := by
      rw [tick_irqT, hmcp, hsame.irqT, hreq]
      rfl
    rw [hirq, setLevels_irqT_high _ (by rw [hc]; split <;> decide), hc]
  · have hc : (tick c).nmiT = if s.cpu.mcp = 203 then .requested else .usable := by
      rw [tick_nmiT (by rw [hmcp]; exact htag), hmcp, hsame.nmiT, hreq]
      rfl
    have hidle : (tick c).nmiT ≠ .idle := by rw [hc]; split <;> decide
    rw [setLevels_nmiT, if_neg (fun h => hidle h.2.2), hc]

/-! The opcode fetch (rules R201 to R205), at any input levels. -/

/-- An opcode fetch that has the bus and is fed its opcode. -/
theorem ticked_of_boundary {s : State} (hb : isBoundary s.cpu.mcp = true) (hbw : (nextInput s).bw = false) (op : Byte)
    (rest : List Byte) : s.ticked (op :: rest) = tick (s.cpu.setCell .ir op) := by
  rw [← accessed_cpu, accessed_of_not_withheld hbw]
  unfold cpuCycle transact
  rw [romAt_boundary _ hb]
  rfl

/-- An engine that quiet setters make `e` is `e` but for the machines and the remembered NMI level, at any levels. -/
theorem setLevels_of_quiet {c e : Cpu} (h : setLevels false false c = e) (irq nmi : Bool) :
    setLevels irq nmi c =
      { e with nmiT := (setLevels irq nmi c).nmiT, irqT := (setLevels irq nmi c).irqT, nmiLine := nmi } := by
  rw [← h, setLevels_quiet, setLevels_frame]

/-- The engine after an opcode fetch that has the bus is that of a quiet one but for the machines and the remembered NMI
level: the instruction entered, or the break forced (rule R201). -/
theorem fetch_cpu {s : State} (hb : isBoundary s.cpu.mcp = true) (hbw : (nextInput s).bw = false) (op : Byte)
    (rest : List Byte) :
    ∃ n i, (systemCycle (op :: rest) s).cpu =
      { (if foundSources s.cpu = 0 then entered op s.cpu else interrupted (foundSources s.cpu) s.cpu) with
          nmiT := n, irqT := i, nmiLine := (nextInput s).nmi } := by
  rw [systemCycle_cpu, ticked_of_boundary hb hbw]
  refine ⟨_, _, setLevels_of_quiet ?_ _ _⟩
  split
  next hnone => exact entered_of_fetch op hb hnone
  next hfound => exact interrupted_of_fetch op hb hfound

/-- The bits of what an opcode fetch finds (rules R41, R201, R425). -/
theorem foundSources_bits (c : Cpu) :
    (foundSources c &&& srcNmi ≠ 0 ↔ polls c.mcp = true ∧ c.nmiT = .usable) ∧
    (foundSources c &&& srcIrq ≠ 0 ↔ polls c.mcp = true ∧ c.irqT = .usable ∧ flag c.p .i = false) ∧
    foundSources c &&& srcSw = 0 := by
  unfold foundSources pollSources
  cases polls c.mcp with
  | false => simp
  | true =>
    by_cases hn : c.nmiT = .usable <;> by_cases hi : c.irqT = .usable ∧ flag c.p .i = false <;>
      simp [hn, hi, srcNmi, srcIrq, srcSw]

/-- Settles O47: the quiet fetch's engine, whose `BRK_SRCS` holds what was found, or SW for opcode 0 with nothing found. -/
theorem pollUsesOldMask : Obligations.PollUsesOldMask := by
  intro s op rest c hb hbw hc
  obtain ⟨n, i, he⟩ := fetch_cpu hb hbw op rest
  obtain ⟨hnmi, hirq, hsw⟩ := foundSources_bits s.cpu
  rw [hc, he]
  split
  next hnone =>
    rw [hnone] at hnmi hirq
    have hsrcs : (entered op s.cpu).brkSrcs = if op = 0x00 then srcSw else 0 := rfl
    refine ⟨rfl, ?_, ?_, ?_, fun _ => ⟨rfl, rfl, rfl⟩, fun h => absurd hnone h⟩
    · rw [← hnmi, hsrcs]
      split <;> decide
    · rw [← hirq, hsrcs]
      split <;> decide
    · have hop : (entered op s.cpu).brkSrcs &&& srcSw ≠ 0 ↔ op = 0x00 := by
        rw [hsrcs]
        split <;> simpa [srcSw]
      exact hop.trans (and_iff_right hnone).symm
  next hfound =>
    exact ⟨rfl, hnmi, hirq, ⟨fun h => absurd hsw h, fun h => absurd h.1 hfound⟩, fun h => absurd h hfound,
      fun _ => ⟨rfl, rfl, rfl⟩⟩

end Sys2Proof.Machine
end

section
/-! The break and reset sequences in a quiet environment (spec/40_engine.md rules R197 to R201, spec/60_exceptions.md rules R411,
R430, R431, spec/70_reset_and_hazards.md rule R472): the run of records 185 to 191 after the fetch that enters it, for BRK and
for a displaced instruction, and the run of records 208 to 215. -/

set_option Elab.async false

namespace Sys2Proof.Machine

/-- A run whose memory side is three bus writes changes those bytes of RAM only. -/
theorem onlyRamAt_of_three_busWrites {s t m : State} {c : Cpu} {bus : List Transfer} {a a' a'' : Addr} {v v' v'' : Byte}
    (hm : m = busWrite (busWrite (busWrite s a v) a' v') a'' v'') (h : Ends s t c m bus) : OnlyRamAt [a, a', a''] s t :=
  fun b hb => by
    obtain ⟨ha, ha', ha''⟩ : b ≠ a ∧ b ≠ a' ∧ b ≠ a'' := by simpa using hb
    rw [h.memory.ram, hm, busWrite_ram_read_ne _ v'' ha'', busWrite_ram_read_ne _ v' ha', busWrite_ram_read_ne s v ha]

/-- A delay machine that is not idle stays so, and an idle one stays idle (rule R422). -/
@[simp] theorem advance_eq_idle (d : Delay) : d.advance = .idle ↔ d = .idle := by cases d <;> decide

/-- A poll finds NMI only when its machine is usable, so a break entered for NMI still has its request (rules R199, R201). -/
theorem nmiT_usable_of_foundSources {c : Cpu} (h : foundSources c &&& srcNmi ≠ 0) : c.nmiT = .usable :=
  ((foundSources_bits c).1.mp h).2

/-- The break entered by the opcode 0x00 takes the NMI vector exactly when an NMI request is there (rule R199). -/
theorem takesNmi_entered (c : Cpu) : takesNmi (entered 0x00 c) = decide (c.nmiT ≠ .idle) := by
  have hsrc : (entered 0x00 c).brkSrcs &&& srcNmi = 0 := by
    show srcSw &&& srcNmi = 0
    decide
  unfold takesNmi
  rw [hsrc]
  simp [entered]

/-- So does the break entered for hardware sources (rules R199, R431). -/
theorem takesNmi_interrupted (c : Cpu) : takesNmi (interrupted (foundSources c) c) = decide (c.nmiT ≠ .idle) := by
  have hsrc : foundSources c &&& srcNmi ≠ 0 → c.nmiT ≠ .idle := fun h => by
    rw [nmiT_usable_of_foundSources h]
    decide
  unfold takesNmi
  simp only [interrupted, ne_eq, advance_eq_idle]
  by_cases h : foundSources c &&& srcNmi = 0
  · simp [h]
  · simp [hsrc h]

/-- What a break makes of an NMI request in the machine `n` at its fetch: the vector, and no request left (rules R199, R430). -/
theorem break_vector {c : Cpu} {n : Delay} (h : takesNmi c = decide (n ≠ .idle)) :
    (if takesNmi c then vectorNmi else vectorIrq) = (if n = .idle then 0xFFFE else 0xFFFA) ∧
    (if takesNmi c then .idle else n.advance) = Delay.idle := by
  rw [h]
  cases n <;> decide

/-- Settles O31: the break sequence after the fetch of the opcode 0x00. -/
theorem softwareBreakResult : Obligations.SoftwareBreakResult := by
  intro s m ret vec target pushed hs hret hpushed hvec hm htarget
  obtain ⟨hvector, hleft⟩ := break_vector (takesNmi_entered s.cpu)
  have hrun : Ends s (runSequence [0x00] s)
      { entered 0x00 s.cpu with d := pushed, sp := stackBelow s.cpu 3, pc := target, a1 := target, a4 := vec + 1,
                                nmiT := .idle, p := setFlag (entryP s.cpu) .i true, mcp := 191 }
      m
      [(s.cpu.pc, .read, 0x00), (s.cpu.pc + 1, .read, s.readAt 1 (s.cpu.pc + 1)), (s.cpu.sp, .write, hi ret),
       (stackBelow s.cpu 1, .write, lo ret), (stackBelow s.cpu 2, .write, pushed), (vec, .read, m.readAt 5 vec),
       (vec + 1, .read, m.readAt 6 (vec + 1))] := by
    refine Ends.fetch hs 185 (by decide) (by decide) fun t2 h2 => ?_
    refine break_run (c := entered 0x00 s.cpu) h2 (entered_settled _ _) ?_ hpushed.symm ?_ ?_ hm.symm htarget.symm
    · show s.cpu.pc + 1 + 1 = ret
      rw [hret]
      exact addr_add_two _
    · exact hvector.trans hvec.symm
    · exact hleft
  exact ⟨_, exec_boundary rfl hs.boundary, hrun, onlyRamAt_of_three_busWrites hm hrun⟩

/-- The first cycle of an instruction at a quiet boundary whose poll finds hardware sources: the break sequence begins, and
nothing but the opcode byte of the instruction is taken from what is fed (rule R201). -/
theorem Ends.fetchDisplaced {s : State} (hb : isBoundary s.cpu.mcp = true) (hq : s.inputs = [])
    (hsrc : foundSources s.cpu ≠ 0) {op : Byte} {rest : List Byte} {mf : State} {cf : Cpu} {bf : List Transfer}
    (k : ∀ t2, Ends s t2 { interrupted (foundSources s.cpu) s.cpu with mcp := 185 } s [(s.cpu.pc, .read, op)] →
      Ends s (runCycles 8 rest t2) cf mf bf) :
    Ends s (runSequence (op :: rest) s) cf mf bf := by
  have hr := romAt_boundary s.cpu.mcp hb
  have hf : Ends s (systemCycle (op :: rest) (clearTrace s)) (interrupted (foundSources s.cpu) s.cpu) s
      ([] ++ [(s.cpu.view .pc, .read, op)]) := by
    rw [← interrupted_of_fetch op hb hsrc]
    exact (Ends.start hq).read (op :: rest) hr rfl
  unfold runSequence
  rw [enoughFuel_quiet hq, runCycles_continue 8 (op :: rest) (t := clearTrace s) hq]
  · have hfeed : feedAfter (op :: rest) (romAt (clearTrace s).cpu.mcp) = rest := by
      rw [clearTrace_cpu, hr]
      rfl
    rw [hfeed]
    exact k _ hf
  · rw [hf.cpu]
    rfl
  · rw [hf.cpu]
    rfl

/-- Settles O32: the break sequence after the fetch that a poll displaces. -/
theorem hardwareEntryResult : Obligations.HardwareEntryResult := by
  intro s m i ret vec target pushed hb hq hsrc hwf hret hpushed hvec hm htarget
  obtain ⟨hvector, hleft⟩ := break_vector (takesNmi_interrupted s.cpu)
  have hsw : foundSources s.cpu ≠ srcSw := fun h => by
    obtain ⟨-, -, hbit⟩ := foundSources_bits s.cpu
    rw [h] at hbit
    exact absurd hbit (by decide)
  have hrun : Ends s (runSequence ((encode i).headD 0 :: (encode i).tail) s)
      { interrupted (foundSources s.cpu) s.cpu with
          d := pushed, sp := stackBelow s.cpu 3, pc := target, a1 := target, a4 := vec + 1, nmiT := .idle,
          p := setFlag (entryP s.cpu) .i true, mcp := 191 }
      m
      [(s.cpu.pc, .read, (encode i).headD 0), (s.cpu.pc, .read, s.readAt 1 s.cpu.pc), (s.cpu.sp, .write, hi ret),
       (stackBelow s.cpu 1, .write, lo ret), (stackBelow s.cpu 2, .write, pushed), (vec, .read, m.readAt 5 vec),
       (vec + 1, .read, m.readAt 6 (vec + 1))] := by
    refine Ends.fetchDisplaced hb hq hsrc fun t2 h2 => ?_
    refine break_run (c := interrupted (foundSources s.cpu) s.cpu) h2 ⟨advance_advance _, rfl, rfl⟩ ?_ ?_ ?_ ?_ hm.symm
      htarget.symm
    · exact (if_neg hsw).trans hret.symm
    · exact (if_neg hsw).trans hpushed.symm
    · exact hvector.trans hvec.symm
    · exact hleft
  rw [← encode_eq_cons hwf] at hrun
  exact ⟨_, exec_boundary hwf hb, hrun, onlyRamAt_of_three_busWrites hm hrun⟩

/-- The quiet tick of a record without hold advances the NMI machine and drops the IRQ machine (rules R173, R420, R421). -/
theorem tick_quiet {c : Cpu} (h : (romAt c.mcp).tag ≠ .holdInts) :
    setLevels false false (tick c) =
      { tagAction (romAt c.mcp).tag (retire (romAt c.mcp) c) with
          nmiT := (tagAction (romAt c.mcp).tag (retire (romAt c.mcp) c)).nmiT.advance, irqT := .idle, nmiLine := false } := by
  unfold tick
  dsimp only
  rw [if_neg h, setLevels_quiet]
  rfl

/-- The reset sequence in a quiet environment, from any state put on its first record (rule R472). -/
theorem reset_ends {s : State} (hq : s.inputs = []) :
    Ends s (runSequence [] { s with cpu := { s.cpu with mcp := resetStart } })
      { s.cpu with d := s.readAt 4 (stackBelow s.cpu 2), sp := stackBelow s.cpu 3, a4 := 0xFFFD,
                   a1 := pair (s.readAt 6 0xFFFD) (s.readAt 5 0xFFFC), pc := pair (s.readAt 6 0xFFFD) (s.readAt 5 0xFFFC),
                   p := setFlag s.cpu.p .i true, mcp := 215, nmiT := s.cpu.nmiT.advance, irqT := .idle, nmiLine := false }
      s
      [(s.cpu.pc, .read, s.readAt 0 s.cpu.pc), (s.cpu.pc, .read, s.readAt 1 s.cpu.pc),
       (s.cpu.sp, .read, s.readAt 2 s.cpu.sp), (stackBelow s.cpu 1, .read, s.readAt 3 (stackBelow s.cpu 1)),
       (stackBelow s.cpu 2, .read, s.readAt 4 (stackBelow s.cpu 2)), (0xFFFC, .read, s.readAt 5 0xFFFC),
       (0xFFFD, .read, s.readAt 6 0xFFFD)] := by
  have hstart : Ends s (clearTrace { s with cpu := { s.cpu with mcp := resetStart } }) { s.cpu with mcp := resetStart } s [] :=
    ⟨rfl, ⟨rfl, rfl, rfl, rfl, rfl, rfl⟩, rfl, rfl, hq, (Ends.start hq).ratio⟩
  have hfirst := hstart.read [] (b := s.readAt 0 s.cpu.pc) (rfl : romAt resetStart = ⟨.pc, .d, .read, false, .nmop⟩)
    (readByte_nil _ _ _ _)
  have htick : setLevels false false (tick ({ s.cpu with mcp := resetStart }.setCell .d (s.readAt 0 s.cpu.pc))) =
      { s.cpu with d := s.readAt 0 s.cpu.pc, mcp := 209, nmiT := s.cpu.nmiT.advance, irqT := .idle, nmiLine := false } :=
    tick_quiet (show Tag.nmop ≠ .holdInts by decide)
  rw [htick] at hfirst
  unfold runSequence
  rw [enoughFuel_quiet (by exact hq), runCycles_continue 8 [] (by exact hq) (by rw [hfirst.cpu]; rfl)
    (by rw [hfirst.cpu]; rfl), feedAfter_nil]
  refine hfirst.thenRead (s.readAt 1 s.cpu.pc)
    { s.cpu with d := s.readAt 1 s.cpu.pc, mcp := 210, nmiT := s.cpu.nmiT.advance, irqT := .idle, nmiLine := false }
    rfl rfl rfl ⟨advance_advance _, rfl, rfl⟩ rfl fun t3 h3 => ?_
  refine h3.thenRead (s.readAt 2 s.cpu.sp)
    { s.cpu with d := s.readAt 2 s.cpu.sp, sp := stackBelow s.cpu 1, mcp := 211, nmiT := s.cpu.nmiT.advance, irqT := .idle,
                 nmiLine := false }
    rfl rfl rfl ⟨advance_advance _, rfl, rfl⟩ rfl fun t4 h4 => ?_
  refine h4.thenRead (s.readAt 3 (stackBelow s.cpu 1))
    { s.cpu with d := s.readAt 3 (stackBelow s.cpu 1), sp := stackBelow s.cpu 2, mcp := 212, nmiT := s.cpu.nmiT.advance,
                 irqT := .idle, nmiLine := false }
    rfl rfl (by simp [tagAction, retire, Cpu.setCell, decSp, Cpu.setS, Cpu.s, stackBelow, byte_sub_sub])
    ⟨advance_advance _, rfl, rfl⟩ rfl fun t5 h5 => ?_
  refine h5.thenRead (s.readAt 4 (stackBelow s.cpu 2))
    { s.cpu with d := s.readAt 4 (stackBelow s.cpu 2), sp := stackBelow s.cpu 3, a4 := 0xFFFC,
                 p := setFlag s.cpu.p .i true, mcp := 213, nmiT := s.cpu.nmiT.advance, irqT := .idle, nmiLine := false }
    rfl rfl
    (by simp [tagAction, retire, Cpu.setCell, resetVec, Cpu.setFlag, vectorReset, decSp, Cpu.setS, Cpu.s, stackBelow,
          byte_sub_three])
    ⟨advance_advance _, rfl, rfl⟩ rfl fun t6 h6 => ?_
  refine h6.thenRead (s.readAt 5 0xFFFC)
    { s.cpu with d := s.readAt 4 (stackBelow s.cpu 2), sp := stackBelow s.cpu 3, a4 := 0xFFFD,
                 a1 := setLo s.cpu.a1 (s.readAt 5 0xFFFC), p := setFlag s.cpu.p .i true, mcp := 214,
                 nmiT := s.cpu.nmiT.advance, irqT := .idle, nmiLine := false }
    rfl rfl rfl ⟨advance_advance _, rfl, rfl⟩ rfl fun t7 h7 => ?_
  exact h7.lastRead (s.readAt 6 0xFFFD) _ rfl rfl
    (by simp [tagAction, retire, Cpu.setCell, jmpAbs]) ⟨advance_advance _, rfl, rfl⟩ rfl

/-- Settles O34: the run of the reset sequence. -/
theorem resetSequenceResult : Obligations.ResetSequenceResult := by
  rintro s target hq rfl
  exact ⟨_, rfl, reset_ends hq⟩

end Sys2Proof.Machine
end

section
/-! The hijack window of a break in progress (spec/60_exceptions.md rules R421, R430, R432): a run of seven cycles in which the
NMI line rises at the end of one cycle and stays high, tracked cycle by cycle by the state of the NMI machine. -/

set_option Elab.async false

namespace Sys2Proof.Machine

/-- The inputs of cycle `k` (from 0) of a run from `s` with the IRQ level `level` and the NMI line high from the end of cycle
`j` (from 1) on; everything else is quiet. -/
def edgeInput (s : State) (level : Bool) (j k : Nat) : CycleInput :=
  { quietInput (s.clock + k) with irq := level, nmi := decide (j ≤ k + 1) }

/-- Seven such cycles. -/
def edgeInputs (s : State) (level : Bool) (j : Nat) : List Event :=
  (List.range 7).map fun k => Event.cycle (edgeInput s level j k)

/-- The NMI machine after `k` cycles of such a run (rules R421, R422), when the break has consumed every request whose edge came
at the end of cycle `taken` or before (rule R199). -/
def requestAfter (taken j k : Nat) : Delay :=
  if j ≤ taken ∨ k < j then .idle else if k = j then .requested else .usable

section

variable {taken j k : Nat}

theorem requestAfter_taken (h : j ≤ taken) : requestAfter taken j k = .idle := if_pos (.inl h)

theorem requestAfter_before (h : k < j) : requestAfter taken j k = .idle := if_pos (.inr h)

theorem requestAfter_edge (h : taken < j) : requestAfter taken j j = .requested := by
  rw [requestAfter, if_neg (by omega), if_pos rfl]

theorem requestAfter_usable (h : taken < j) (hk : j < k) : requestAfter taken j k = .usable := by
  rw [requestAfter, if_neg (by omega), if_neg (by omega)]

/-- A request is there exactly when its edge has come and it is not consumed. -/
theorem requestAfter_eq_idle_iff : requestAfter taken j k = .idle ↔ j ≤ taken ∨ k < j := by
  unfold requestAfter
  split
  · simp [*]
  · split <;> simp_all

end

/-- The engine `c` with the delay machines `n` and `i` and the remembered NMI level `l`. -/
def Cpu.withRequests (c : Cpu) (n i : Delay) (l : Bool) : Cpu := { c with nmiT := n, irqT := i, nmiLine := l }

@[simp] theorem Cpu.withRequests_view (c : Cpu) (n i : Delay) (l : Bool) (ar : View) :
    (c.withRequests n i l).view ar = c.view ar := by cases ar <;> rfl

@[simp] theorem Cpu.withRequests_cell (c : Cpu) (n i : Delay) (l : Bool) (r : Cell) :
    (c.withRequests n i l).cell r = c.cell r := by cases r <;> rfl

theorem Cpu.withRequests_self {c : Cpu} {n i : Delay} {l : Bool} (hn : c.nmiT = n) (hi : c.irqT = i) (hl : c.nmiLine = l) :
    c.withRequests n i l = c := by
  subst hn hi hl
  rfl

@[simp] theorem Cpu.withRequests_mcp (c : Cpu) (n i : Delay) (l : Bool) : (c.withRequests n i l).mcp = c.mcp := rfl

/-- `brk_vec` for a break whose own source is not NMI: the NMI vector is taken exactly when a request is there, and no request
is left (rule R199). -/
theorem brkVec_withRequests {c : Cpu} (h : c.brkSrcs &&& srcNmi = 0) (n i : Delay) (l : Bool) :
    brkVec (c.withRequests n i l) =
      { c with sp := setLo c.sp (c.s - 1), a4 := (if n = Delay.idle then vectorIrq else vectorNmi),
               p := setFlag c.p .i true }.withRequests .idle i l := by
  have ht : takesNmi (c.withRequests n i l) = !decide (n = Delay.idle) := by
    show (decide (c.brkSrcs &&& srcNmi ≠ 0) || decide (n ≠ Delay.idle)) = _
    rw [h]
    cases n <;> rfl
  rw [brkVec_eq, ht]
  by_cases hn : n = .idle <;> simp [hn, Cpu.withRequests, Cpu.s]

/-- One more cycle of the NMI machine: the tick's advance, then the setter (rules R173, R421). -/
theorem requestAfter_succ {taken j k : Nat} (h : taken ≤ k) :
    requestAfter taken j (k + 1) =
      if decide (j ≤ k + 1) = true ∧ decide (j ≤ k) = false ∧ (requestAfter taken j k).advance = .idle then .requested
      else (requestAfter taken j k).advance := by
  rcases Nat.lt_trichotomy j (k + 1) with hj | hj | hj
  · have hle : j ≤ k := by omega
    rw [if_neg (by simp [hle])]
    by_cases ht : j ≤ taken
    · rw [requestAfter_taken ht, requestAfter_taken ht]
      rfl
    · rw [requestAfter_usable (by omega) hj]
      rcases Nat.lt_or_eq_of_le hle with hlt | rfl
      · rw [requestAfter_usable (by omega) hlt]
        rfl
      · rw [requestAfter_edge (by omega)]
        rfl
  · subst hj
    rw [requestAfter_edge (by omega), requestAfter_before (by omega), if_pos (by simp [Delay.advance])]
  · rw [requestAfter_before hj, requestAfter_before (by omega), if_neg (by simp; omega)]
    rfl

/-- The setters after the tick of such a cycle (rules R420, R421). -/
theorem setLevels_withRequests {taken j k : Nat} (h : taken ≤ k) (c : Cpu) (irq : Bool) (i : Delay) :
    ∃ i', setLevels irq (decide (j ≤ k + 1)) (c.withRequests (requestAfter taken j k).advance i (decide (j ≤ k))) =
      c.withRequests (requestAfter taken j (k + 1)) i' (decide (j ≤ k + 1)) := by
  rw [requestAfter_succ h, setLevels_frame, setLevels_nmiT]
  exact ⟨_, rfl⟩

/-- The tick of a record without hold, by its tag's action (rule R173). -/
theorem tick_withRequests {c c' : Cpu} {r : MicroOp} {n i : Delay} {l : Bool} (hm : romAt c.mcp = r) (h : r.tag ≠ .holdInts)
    (hc : tagAction r.tag (retire r c) = c'.withRequests n i l) : tick c = c'.withRequests n.advance i.advance l := by
  unfold tick
  dsimp only
  rw [hm, if_neg h, hc]
  rfl

/-- Every system cycle takes its inputs off the queue. -/
theorem systemCycle_inputs (feed : List Byte) (s : State) : (systemCycle feed s).inputs = restInputs s.inputs := by
  unfold systemCycle
  dsimp only
  rw [secondaryStep_frame, notifyCart_frame]
  dsimp only
  split
  · rfl
  · rw [cpuCycle_withInputs]

/-- `t` is reached from `s` by cycles of such a run, one for each transfer of `bus`, in order, and holds the memory side of `m`
and the engine `c` but for the machines and the remembered NMI level. -/
structure EdgeRun (s : State) (level : Bool) (j : Nat) (t : State) (taken : Nat) (c : Cpu) (m : State)
    (bus : List Transfer) : Prop where
  cpu : ∃ i, t.cpu = c.withRequests (requestAfter taken j bus.length) i (decide (j ≤ bus.length))
  memory : SameMemory t m
  transfers : t.trace.map BusEvent.transfer = bus.map some
  inputs : t.inputs = (edgeInputs s level j).drop bus.length

namespace EdgeRun

variable {s t m : State} {level : Bool} {j taken : Nat} {c : Cpu} {bus : List Transfer}

/-- The start of the run, with the NMI machine idle and the line low. -/
theorem start (hn : s.cpu.nmiT = .idle) (hl : s.cpu.nmiLine = false) (hj : 1 ≤ j) (hq : s.inputs = edgeInputs s level j) :
    EdgeRun s level j (clearTrace s) 0 s.cpu s [] := by
  refine ⟨⟨s.cpu.irqT, ?_⟩, ⟨rfl, rfl, rfl, rfl, rfl, rfl⟩, rfl, hq⟩
  have hr : requestAfter 0 j 0 = .idle := if_pos (.inr hj)
  have hlow : decide (j ≤ 0) = false := decide_eq_false (by omega)
  exact (Cpu.withRequests_self (hn.trans hr.symm) rfl (hl.trans hlow.symm)).symm

/-- The queue before a cycle of the run. -/
theorem inputs_cons (h : EdgeRun s level j t taken c m bus) (hlen : bus.length < 7) :
    t.inputs = .cycle (edgeInput s level j bus.length) :: (edgeInputs s level j).drop (bus.length + 1) := by
  have hlen' : bus.length < (edgeInputs s level j).length := by simpa [edgeInputs] using hlen
  rw [h.inputs, List.drop_eq_getElem_cons hlen']
  simp [edgeInputs]

theorem nextInput_eq (h : EdgeRun s level j t taken c m bus) (hlen : bus.length < 7) :
    nextInput t = edgeInput s level j bus.length := by
  unfold nextInput
  rw [h.inputs_cons hlen]

theorem mcp (h : EdgeRun s level j t taken c m bus) : t.cpu.mcp = c.mcp := by
  obtain ⟨i, hcpu⟩ := h.cpu
  rw [hcpu]
  rfl

/-- A cycle of the run, by what its step 2 leaves. -/
theorem cycle (h : EdgeRun s level j t taken c m bus) (hlen : bus.length < 7) {feed : List Byte} {x : Transfer} {m' : State}
    {c' : Cpu} {taken' : Nat} (htaken : taken' ≤ bus.length)
    (hcpu : ∃ i, t.ticked feed = c'.withRequests (requestAfter taken' j bus.length).advance i (decide (j ≤ bus.length)))
    (hmem : SameMemory (t.accessed feed) m') (htr : (t.accessed feed).trace.map BusEvent.transfer = (bus ++ [x]).map some) :
    EdgeRun s level j (systemCycle feed t) taken' c' m' (bus ++ [x]) := by
  obtain ⟨i, hcpu⟩ := hcpu
  have hnext := h.nextInput_eq hlen
  have hlen' : (bus ++ [x]).length = bus.length + 1 := List.length_append
  refine ⟨?_, ?_, ?_, ?_⟩
  · rw [systemCycle_cpu, hnext, hcpu, hlen']
    exact setLevels_withRequests htaken _ _ _
  · have hcart : (nextInput t).cart = none := by rw [hnext]; rfl
    rw [systemCycle_frame, hcart]
    exact ⟨hmem.1, hmem.2, hmem.3, hmem.4, hmem.5, hmem.6⟩
  · rw [systemCycle_trace, htr]
  · rw [systemCycle_inputs, h.inputs_cons hlen, hlen']
    rfl

/-- The bus is the CPU's in every cycle of the run. -/
theorem accessed_eq (h : EdgeRun s level j t taken c m bus) (hlen : bus.length < 7) (feed : List Byte) :
    t.accessed feed = cpuCycle feed (edgeInput s level j bus.length) t := by
  have hnext := h.nextInput_eq hlen
  rw [accessed_of_not_withheld (by rw [hnext]; rfl), hnext]

/-- A run of cycles goes on, or ends at a boundary, after a cycle of the run. -/
theorem runCycles_eq (h : EdgeRun s level j t taken c m bus) (hlen : bus.length < 7) (fuel : Nat) (feed : List Byte) :
    runCycles (fuel + 1) feed t =
      if isBoundary (systemCycle feed t).cpu.mcp || isHalted (systemCycle feed t).cpu.mcp then systemCycle feed t
      else runCycles fuel (feedAfter feed (romAt t.cpu.mcp)) (systemCycle feed t) := by
  have hnext := h.nextInput_eq hlen
  have hbw : (nextInput t).bw = false := by rw [hnext]; rfl
  rw [runCycles]
  simp only [h.inputs_cons hlen, feedAfterCycle, hbw]
  rfl
/-- A cycle of the run whose record reads, but no byte of the instruction stream. -/
theorem read (h : EdgeRun s level j t taken c m bus) (hlen : bus.length < 7) (feed : List Byte) {ar : View} {dr : Cell}
    {inc : Bool} {tag : Tag} {taken' : Nat} (b : Byte) (c' : Cpu) (hm : romAt c.mcp = ⟨ar, dr, .read, inc, tag⟩)
    (hst : isStreamRead ⟨ar, dr, .read, inc, tag⟩ = false)
    (hb : busRead m (quietInput (s.clock + bus.length)) (c.view ar) = b) (htag : tag ≠ .holdInts)
    (htaken : taken' ≤ bus.length)
    (hc : ∀ i l, tagAction tag (retire ⟨ar, dr, .read, inc, tag⟩
      ((c.withRequests (requestAfter taken j bus.length) i l).setCell dr b)) =
        c'.withRequests (requestAfter taken' j bus.length) i l) :
    EdgeRun s level j (systemCycle feed t) taken' c' m (bus ++ [(c.view ar, .read, b)]) := by
  obtain ⟨i, hcpu⟩ := h.cpu
  have hread : readByte feed ⟨ar, dr, .read, inc, tag⟩ t (edgeInput s level j bus.length) (c.view ar) = b := by
    rw [readByte_of_not_stream hst, busRead_of_sameMemory h.memory, ← hb]
    rfl
  have hacc : t.accessed feed =
      { t with cpu := tick (t.cpu.setCell dr b),
               trace := t.trace ++ [BusEvent.access (c.view ar) .read b (target t .read (c.view ar))
                 (isStreamRead ⟨ar, dr, .read, inc, tag⟩)] } := by
    rw [h.accessed_eq hlen]
    simp only [cpuCycle, transact, hcpu, Cpu.withRequests_mcp, Cpu.withRequests_view, hm, hread]
  refine h.cycle hlen htaken ⟨i.advance, ?_⟩ ?_ ?_
  · rw [← accessed_cpu, hacc]
    refine tick_withRequests (by rw [setCell_mcp, h.mcp, hm]) htag ?_
    rw [hcpu]
    exact hc _ _
  · rw [hacc]
    exact ⟨h.memory.1, h.memory.2, h.memory.3, h.memory.4, h.memory.5, h.memory.6⟩
  · rw [hacc]
    simp [h.transfers, BusEvent.transfer]

/-- A cycle of the run whose record writes. -/
theorem write (h : EdgeRun s level j t taken c m bus) (hlen : bus.length < 7) (feed : List Byte) {ar : View} {dr : Cell}
    {inc : Bool} {tag : Tag} {taken' : Nat} (c' : Cpu) (hm : romAt c.mcp = ⟨ar, dr, .write, inc, tag⟩)
    (htag : tag ≠ .holdInts) (htaken : taken' ≤ bus.length)
    (hc : ∀ i l, tagAction tag (retire ⟨ar, dr, .write, inc, tag⟩
      (c.withRequests (requestAfter taken j bus.length) i l)) = c'.withRequests (requestAfter taken' j bus.length) i l) :
    EdgeRun s level j (systemCycle feed t) taken' c' (busWrite m (c.view ar) (c.cell dr))
      (bus ++ [(c.view ar, .write, c.cell dr)]) := by
  obtain ⟨i, hcpu⟩ := h.cpu
  have hacc : t.accessed feed =
      { busWrite t (c.view ar) (c.cell dr) with
          cpu := tick t.cpu,
          trace := t.trace ++ [BusEvent.access (c.view ar) .write (c.cell dr) (target t .write (c.view ar)) false] } := by
    rw [h.accessed_eq hlen]
    simp only [cpuCycle, transact, hcpu, Cpu.withRequests_mcp, Cpu.withRequests_view, Cpu.withRequests_cell, hm,
      busWrite_cpu]
  have hw := sameMemory_busWrite h.memory (c.view ar) (c.cell dr)
  refine h.cycle hlen htaken ⟨i.advance, ?_⟩ ?_ ?_
  · rw [← accessed_cpu, hacc]
    refine tick_withRequests (h.mcp ▸ hm) htag ?_
    rw [hcpu]
    exact hc _ _
  · rw [hacc]
    exact ⟨hw.1, hw.2, hw.3, hw.4, hw.5, hw.6⟩
  · rw [hacc]
    simp [h.transfers, BusEvent.transfer]

/-- The opcode fetch of the run at a boundary: the quiet fetch's engine `e`, but for the machines and the NMI level. -/
theorem fetch (h : EdgeRun s level j t 0 c m []) (hj : 1 ≤ j) (hb : isBoundary c.mcp = true) {op : Byte}
    (rest : List Byte) {e : Cpu} (he : setLevels false false (tick (t.cpu.setCell .ir op)) = e)
    (hnmi : e.nmiT = .idle) :
    EdgeRun s level j (systemCycle (op :: rest) t) 0 e m [(c.pc, .read, op)] := by
  have hlen : ([] : List Transfer).length < 7 := by decide
  rw [setLevels_quiet] at he
  subst he
  obtain ⟨i, hcpu⟩ := h.cpu
  have hline : (tick (t.cpu.setCell .ir op)).nmiLine = decide (j ≤ 0) := by
    rw [tick_nmiLine, (setCell_sameRequests _ _ _).nmiLine, hcpu]
    rfl
  have hb' : isBoundary t.cpu.mcp = true := by rw [hcpu]; exact hb
  have hidle : requestAfter 0 j 0 = .idle := requestAfter_before hj
  have hacc : t.accessed (op :: rest) =
      { t with cpu := tick (t.cpu.setCell .ir op),
               trace := t.trace ++ [BusEvent.access c.pc .read op (target t .read c.pc) true] } := by
    have hpc : t.cpu.pc = c.pc := by rw [hcpu]; rfl
    rw [h.accessed_eq hlen, ← hpc]
    unfold cpuCycle transact
    rw [romAt_boundary _ hb']
    rfl
  refine h.cycle hlen (Nat.zero_le _) ⟨(tick (t.cpu.setCell .ir op)).irqT, ?_⟩ ?_ ?_
  · rw [← accessed_cpu, hacc]
    have hadvance : (tick (t.cpu.setCell .ir op)).nmiT = (requestAfter 0 j 0).advance := hnmi.trans (by rw [hidle]; rfl)
    exact (Cpu.withRequests_self hadvance rfl hline).symm
  · rw [hacc]
    exact ⟨h.memory.1, h.memory.2, h.memory.3, h.memory.4, h.memory.5, h.memory.6⟩
  · rw [hacc]
    simp [h.transfers, BusEvent.transfer]

/-- The run goes on after a cycle that leaves the engine `c'` off a boundary and not halted. -/
theorem runCycles_continue (h : EdgeRun s level j t taken c m bus) (hlen : bus.length < 7) {fuel : Nat} {feed : List Byte}
    {x : Transfer} {taken' : Nat} {c' : Cpu} {m' : State}
    (h' : EdgeRun s level j (systemCycle feed t) taken' c' m' (bus ++ [x]))
    (hn : (isBoundary c'.mcp || isHalted c'.mcp) = false) :
    runCycles (fuel + 1) feed t = runCycles fuel (feedAfter feed (romAt c.mcp)) (systemCycle feed t) := by
  rw [h.runCycles_eq hlen, h.mcp, h'.mcp, if_neg (by simp [hn])]

/-- The run ends with a cycle that leaves the engine `c'` at a boundary. -/
theorem runCycles_end (h : EdgeRun s level j t taken c m bus) (hlen : bus.length < 7) {fuel : Nat} {feed : List Byte}
    {x : Transfer} {taken' : Nat} {c' : Cpu} {m' : State}
    (h' : EdgeRun s level j (systemCycle feed t) taken' c' m' (bus ++ [x]))
    (hn : (isBoundary c'.mcp || isHalted c'.mcp) = true) : runCycles (fuel + 1) feed t = systemCycle feed t := by
  rw [h.runCycles_eq hlen, h'.mcp, if_pos hn]

variable {cf : Cpu} {mf : State} {bf : List Transfer} {takenf : Nat}

theorem withMemory (h : EdgeRun s level j t taken c m bus) (hm : m = mf) : EdgeRun s level j t taken c mf bus := hm ▸ h

/-- The run goes on after a cycle that reads, whatever is fed. -/
theorem thenRead (h : EdgeRun s level j t taken c m bus) (hlen : bus.length < 7) {fuel : Nat} {feed : List Byte} {ar : View}
    {dr : Cell} {inc : Bool} {tag : Tag} {taken' : Nat} (b : Byte) (c' : Cpu) (hm : romAt c.mcp = ⟨ar, dr, .read, inc, tag⟩)
    (hst : isStreamRead ⟨ar, dr, .read, inc, tag⟩ = false)
    (hb : busRead m (quietInput (s.clock + bus.length)) (c.view ar) = b) (htag : tag ≠ .holdInts)
    (htaken : taken' ≤ bus.length)
    (hc : ∀ i l, tagAction tag (retire ⟨ar, dr, .read, inc, tag⟩
      ((c.withRequests (requestAfter taken j bus.length) i l).setCell dr b)) =
        c'.withRequests (requestAfter taken' j bus.length) i l)
    (hn : (isBoundary c'.mcp || isHalted c'.mcp) = false)
    (k : ∀ t' feed', EdgeRun s level j t' taken' c' m (bus ++ [(c.view ar, .read, b)]) →
      EdgeRun s level j (runCycles fuel feed' t') takenf cf mf bf) :
    EdgeRun s level j (runCycles (fuel + 1) feed t) takenf cf mf bf := by
  have h' := h.read hlen feed b c' hm hst hb htag htaken hc
  rw [h.runCycles_continue hlen h' hn]
  exact k _ _ h'

/-- The run goes on after a cycle that writes. -/
theorem thenWrite (h : EdgeRun s level j t taken c m bus) (hlen : bus.length < 7) {fuel : Nat} {feed : List Byte} {ar : View}
    {dr : Cell} {inc : Bool} {tag : Tag} {taken' : Nat} (c' : Cpu) (hm : romAt c.mcp = ⟨ar, dr, .write, inc, tag⟩)
    (htag : tag ≠ .holdInts) (htaken : taken' ≤ bus.length)
    (hc : ∀ i l, tagAction tag (retire ⟨ar, dr, .write, inc, tag⟩
      (c.withRequests (requestAfter taken j bus.length) i l)) = c'.withRequests (requestAfter taken' j bus.length) i l)
    (hn : (isBoundary c'.mcp || isHalted c'.mcp) = false)
    (k : ∀ t' feed', EdgeRun s level j t' taken' c' (busWrite m (c.view ar) (c.cell dr))
        (bus ++ [(c.view ar, .write, c.cell dr)]) → EdgeRun s level j (runCycles fuel feed' t') takenf cf mf bf) :
    EdgeRun s level j (runCycles (fuel + 1) feed t) takenf cf mf bf := by
  have h' := h.write hlen feed c' hm htag htaken hc
  rw [h.runCycles_continue hlen h' hn]
  exact k _ _ h'

/-- The break sequence of the run after the fetch that entered it from the engine `c`, whose own source is not NMI: a request
whose edge came in cycles 1 to 4 takes the vector and is consumed (rules R197 to R199, R432). -/
theorem break_run {x : Transfer} (h : EdgeRun s level j t 0 { c with mcp := 185 } s [x]) (hj : 1 ≤ j) {fuel : Nat}
    {feed : List Byte} (hsrc : c.brkSrcs &&& srcNmi = 0) {pc : Addr} {pushed : Byte} {vec : Addr}
    (hpc : (if c.brkSrcs = srcSw then c.pc + 1 else c.pc) = pc)
    (hpush : (if c.brkSrcs = srcSw then forceUB c.p else (c.p ||| 0x20) &&& 0xEF) = pushed)
    (hvec : (if j ≤ 4 then vectorNmi else vectorIrq) = vec)
    (hmem : busWrite (busWrite (busWrite s c.sp (hi pc)) (setLo c.sp (c.s - 1)) (lo pc)) (setLo c.sp (c.s - 2)) pushed
      = m) :
    EdgeRun s level j (runCycles (fuel + 6) feed t) 4
      { c with d := pushed, pc := pair (m.readAt 6 (vec + 1)) (m.readAt 5 vec), sp := setLo c.sp (c.s - 3),
               a1 := pair (m.readAt 6 (vec + 1)) (m.readAt 5 vec), a4 := vec + 1, p := setFlag c.p .i true, mcp := 191 }
      m
      [x, (c.pc, .read, s.readAt 1 c.pc), (c.sp, .write, hi pc), (setLo c.sp (c.s - 1), .write, lo pc),
       (setLo c.sp (c.s - 2), .write, pushed), (vec, .read, m.readAt 5 vec),
       (vec + 1, .read, m.readAt 6 (vec + 1))] := by
  have hclock : m.clock = s.clock := by subst hmem; simp
  have hread : ∀ k a, busRead m (quietInput (s.clock + k)) a = m.readAt k a := fun k a => by rw [State.readAt, hclock]
  refine h.thenRead (by simp) (s.readAt 1 c.pc) { c with d := s.readAt 1 c.pc, pc := pc, mcp := 186 } rfl rfl rfl
    (by decide) (Nat.zero_le _) (fun i l => ?_) rfl fun t1 _ h1 => ?_
  · subst hpc
    exact brkTag_eq _
  refine h1.thenWrite (by simp) { c with d := s.readAt 1 c.pc, pc := pc, sp := setLo c.sp (c.s - 1), mcp := 187 } rfl
    (by decide) (Nat.zero_le _) (fun _ _ => rfl) rfl fun t2 _ h2 => ?_
  refine h2.thenWrite (by simp) { c with d := pushed, pc := pc, sp := setLo c.sp (c.s - 2), mcp := 188 } rfl
    (by decide) (Nat.zero_le _) (fun i l => ?_) rfl fun t3 _ h3 => ?_
  · subst hpush
    simp [tagAction, retire, brkP, pushedStatus, decSp, Cpu.setS, Cpu.s, Cpu.withRequests, byte_sub_sub]
  refine h3.thenWrite (taken' := 4) (by simp)
    { c with d := pushed, pc := pc, sp := setLo c.sp (c.s - 3), a4 := vec, p := setFlag c.p .i true, mcp := 189 } rfl
    (by decide) (by simp) (fun i l => ?_) rfl fun t4 _ h4 => ?_
  · have hnone : requestAfter 4 j 4 = .idle := requestAfter_eq_idle_iff.mpr (by omega)
    have hvector : (if requestAfter 0 j 4 = Delay.idle then vectorIrq else vectorNmi) = vec := by
      rw [← hvec]
      by_cases h4 : j ≤ 4
      · rw [if_neg (by rw [requestAfter_eq_idle_iff]; omega), if_pos h4]
      · rw [if_pos (requestAfter_eq_idle_iff.mpr (by omega)), if_neg h4]
    refine (brkVec_withRequests (c := { c with d := pushed, pc := pc, sp := setLo c.sp (c.s - 2), mcp := 189 })
      hsrc (requestAfter 0 j 4) i l).trans ?_
    show Cpu.withRequests _ _ i l = Cpu.withRequests _ (requestAfter 4 j 4) i l
    rw [hnone]
    simp [← hvector, Cpu.s, byte_sub_three]
  refine (h4.withMemory hmem).thenRead (by simp) (m.readAt 5 vec)
    { c with d := pushed, pc := pc, sp := setLo c.sp (c.s - 3), a1 := setLo c.a1 (m.readAt 5 vec), a4 := vec + 1,
             p := setFlag c.p .i true, mcp := 190 }
    rfl rfl (hread 5 vec) (by decide) (by simp) (fun _ _ => rfl) rfl fun t5 feed' h5 => ?_
  have h6 := h5.read (by simp) feed' (taken' := 4) (m.readAt 6 (vec + 1))
    { c with d := pushed, pc := pair (m.readAt 6 (vec + 1)) (m.readAt 5 vec), sp := setLo c.sp (c.s - 3),
             a1 := pair (m.readAt 6 (vec + 1)) (m.readAt 5 vec), a4 := vec + 1, p := setFlag c.p .i true, mcp := 191 }
    rfl rfl (hread 6 (vec + 1)) (by decide) (by simp)
    (fun i l => by simp [tagAction, retire, jmpAbs, Cpu.setCell, Cpu.withRequests])
  rw [h5.runCycles_end (by simp) h6 rfl]
  exact h6

end EdgeRun

/-- What an entry of the run leaves, said as the statement says it (rule R432). -/
theorem EdgeRun.result {s t m : State} {level : Bool} {j : Nat} {c : Cpu} {bus : List Transfer}
    (h : EdgeRun s level j t 4 c m bus) (hlen : bus.length = 7) (hj : j ≤ 7) :
    t.trace.map BusEvent.transfer = bus.map some ∧ t.cpu.pc = c.pc ∧ t.cpu.sp = c.sp ∧ t.cpu.p = c.p ∧ t.inputs = [] ∧
      (t.cpu.nmiT = .idle ↔ j ≤ 4) := by
  obtain ⟨i, hcpu⟩ := h.cpu
  refine ⟨h.transfers, by rw [hcpu]; rfl, by rw [hcpu]; rfl, by rw [hcpu]; rfl, ?_, ?_⟩
  · rw [h.inputs, hlen]
    rfl
  · rw [hcpu]
    show requestAfter 4 j bus.length = .idle ↔ _
    rw [requestAfter_eq_idle_iff, hlen]
    omega

/-- The entry of the run from a boundary: the quiet fetch's engine `e`, whose own source is not NMI, then the break sequence. -/
theorem edgeRun_entry {s m : State} {level : Bool} {j : Nat} {e : Cpu} {op : Byte} {rest : List Byte} {pc vec : Addr}
    {pushed : Byte} (hb : isBoundary s.cpu.mcp = true) (hn : s.cpu.nmiT = .idle) (hl : s.cpu.nmiLine = false) (hj : 1 ≤ j)
    (hq : s.inputs = edgeInputs s level j) (he : setLevels false false (tick (s.cpu.setCell .ir op)) = e)
    (hnmi : e.nmiT = .idle) (hmcp : e.mcp = 185) (hsrc : e.brkSrcs &&& srcNmi = 0)
    (hpc : (if e.brkSrcs = srcSw then e.pc + 1 else e.pc) = pc)
    (hpush : (if e.brkSrcs = srcSw then forceUB e.p else (e.p ||| 0x20) &&& 0xEF) = pushed)
    (hvec : (if j ≤ 4 then vectorNmi else vectorIrq) = vec)
    (hmem : busWrite (busWrite (busWrite s e.sp (hi pc)) (stackBelow e 1) (lo pc)) (stackBelow e 2) pushed = m) :
    EdgeRun s level j (runSequence (op :: rest) s) 4
      { e with d := pushed, pc := pair (m.readAt 6 (vec + 1)) (m.readAt 5 vec), sp := stackBelow e 3,
               a1 := pair (m.readAt 6 (vec + 1)) (m.readAt 5 vec), a4 := vec + 1, p := setFlag e.p .i true, mcp := 191 }
      m
      [(s.cpu.pc, .read, op), (e.pc, .read, s.readAt 1 e.pc), (e.sp, .write, hi pc), (stackBelow e 1, .write, lo pc),
       (stackBelow e 2, .write, pushed), (vec, .read, m.readAt 5 vec), (vec + 1, .read, m.readAt 6 (vec + 1))] := by
  have hfuel : enoughFuel s = 15 + 1 := by rw [enoughFuel, hq]; rfl
  have h0 := EdgeRun.start hn hl hj hq
  have h1 := h0.fetch hj hb rest he hnmi
  have he185 : { e with mcp := 185 } = e := by rw [← hmcp]
  unfold runSequence
  rw [hfuel, h0.runCycles_continue (x := (s.cpu.pc, .read, op)) (by decide) h1 (by rw [hmcp]; rfl)]
  exact EdgeRun.break_run (c := e) (fuel := 9) (he185.symm ▸ h1) hj hsrc hpc hpush hvec hmem

/-- Settles O33: the break sequence of the run, after the fetch of BRK and after one that an IRQ displaces. -/
theorem hijackWindow : Obligations.HijackWindow := by
  refine ⟨?_, ?_⟩
  · intro s m j level ret vec pushed hb hsrc hn hl hj1 hj7 hq hret hpushed hvec hm
    have h := edgeRun_entry (rest := []) (e := entered 0x00 s.cpu) hb hn hl hj1 hq (entered_of_fetch 0x00 hb hsrc)
      (by simp [entered, hn, Delay.advance]) rfl (show srcSw &&& srcNmi = 0 by decide)
      (show s.cpu.pc + 1 + 1 = ret by rw [hret]; exact addr_add_two _) hpushed.symm hvec.symm hm.symm
    exact ⟨_, exec_boundary rfl hb, h.result rfl hj7⟩
  · intro s m i j level ret vec pushed hb hsrc hwf hn hl hj1 hj7 hq hret hpushed hvec hm
    have hne : foundSources s.cpu ≠ 0 := by rw [hsrc]; decide
    have h := edgeRun_entry (op := (encode i).headD 0) (rest := (encode i).tail) (e := interrupted srcIrq s.cpu) hb hn hl hj1
      hq (hsrc ▸ interrupted_of_fetch _ hb hne) (by simp [interrupted, hn, Delay.advance]) rfl
      (show srcIrq &&& srcNmi = 0 by decide) hret.symm hpushed.symm hvec.symm hm.symm
    rw [← encode_eq_cons hwf] at h
    exact ⟨_, exec_boundary hwf hb, h.result rfl hj7⟩

end Sys2Proof.Machine
end

section
/-! The secondary system's share of the primary system's cycles (spec/60_exceptions.md rules R455 to R457): 67 of every 68, each
of them one access by the drive map, the tick and both setters. -/

set_option Elab.async false

namespace Sys2Proof.Machine

/-! The tick counter (rules R455, R456). -/

/-- The counter and the secondary system after the secondary step (rule R456). -/
theorem secondaryStep_ratio (c : CycleInput) (s : State) :
    (secondaryStep c s).secCnt.val = (s.secCnt.val + 1) % 68 ∧
    (secondaryStep c s).drive = if s.secCnt.val + 1 = 68 then s.drive else driveCycle c s.drive := by
  have hlt : s.secCnt.val < 68 := s.secCnt.isLt
  unfold secondaryStep
  split
  next h =>
    have h : s.secCnt.val + 1 < 68 := h
    exact ⟨(Nat.mod_eq_of_lt h).symm, (if_neg (by omega)).symm⟩
  next h =>
    have h : s.secCnt.val + 1 = 68 := by
      have h : ¬ s.secCnt.val + 1 < 68 := h
      omega
    exact ⟨by rw [h], (if_pos h).symm⟩

@[simp] theorem cpuCycle_secCnt (feed : List Byte) (c : CycleInput) (s : State) : (cpuCycle feed c s).secCnt = s.secCnt := by
  cases hrw : (romAt s.cpu.mcp).rw with
  | read =>
    obtain ⟨b, tr, e⟩ := cpuCycle_of_read feed c hrw
    rw [e]
  | write =>
    obtain ⟨a, v, tr, e⟩ := cpuCycle_of_write feed c hrw
    rw [e]
    exact busWrite_secCnt s a v

@[simp] theorem notifyCart_secCnt (s : State) (l : Option CartLines) : (notifyCart s l).secCnt = s.secCnt := by
  rw [notifyCart_frame]

/-- Every system cycle, stalled or not, counts; the one in which the counter comes back to 0 makes no secondary cycle. -/
theorem systemCycle_ratio (feed : List Byte) (s : State) :
    (systemCycle feed s).secCnt.val = (s.secCnt.val + 1) % 68 ∧
    (systemCycle feed s).drive = if s.secCnt.val + 1 = 68 then s.drive else driveCycle (nextInput s) s.drive := by
  have hstep : ∀ u : State, u.secCnt = s.secCnt → u.drive = s.drive →
      (secondaryStep (nextInput s) u).secCnt.val = (s.secCnt.val + 1) % 68 ∧
      (secondaryStep (nextInput s) u).drive = if s.secCnt.val + 1 = 68 then s.drive else driveCycle (nextInput s) s.drive :=
    fun u hcnt hdrive => hcnt ▸ hdrive ▸ secondaryStep_ratio _ u
  refine hstep _ ?_ ?_
  · dsimp only
    rw [notifyCart_secCnt]
    split
    · rfl
    · rw [cpuCycle_secCnt]
  · dsimp only
    rw [notifyCart_drive]
    split
    · rfl
    · exact (cpuCycle_frame _ _ _).2.2

/-! The secondary cycle (rule R457). -/

/-- The 1 KB block of an address by its number. -/
theorem driveKind_eq (a : Addr) : driveKind a = Config.driveMap (BitVec.ofNat 6 (a.toNat / 1024)) := by
  have hblock : a.extractLsb' 10 6 = BitVec.ofNat 6 (a.toNat / 1024) := by
    apply BitVec.eq_of_toNat_eq
    simp [BitVec.extractLsb'_toNat, Nat.shiftRight_eq_div_pow]
  rw [driveKind, hblock]

@[simp] theorem driveWrite_trace (d : Drive) (a : Addr) (v : Byte) : (driveWrite d a v).trace = d.trace := by
  unfold driveWrite
  cases driveKind a <;> rfl

/-- A write of the secondary system changes its RAM in a RAM block only, and there the one cell of the address. -/
theorem driveWrite_ram (d : Drive) (a : Addr) (v : Byte) :
    (driveWrite d a v).ram = if driveKind a = .ram then d.ram.write (Config.driveRamCell a) v else d.ram := by
  unfold driveWrite
  cases driveKind a <;> rfl

/-- A cell after a write in the secondary system. -/
theorem driveWrite_ram_read {d : Drive} (a : Addr) (v : Byte) {x : Addr} (hx : d.ram.wf = true ∨ x ≠ Config.driveRamCell a) :
    (driveWrite d a v).ram.read x =
      if driveKind a = .ram ∧ x = Config.driveRamCell a then v else d.ram.read x := by
  rw [driveWrite_ram]
  by_cases hk : driveKind a = .ram
  · rw [if_pos hk]
    by_cases he : x = Config.driveRamCell a
    · rw [if_pos ⟨hk, he⟩, he, Memory.read_write_self (hx.resolve_right (not_not_intro he))]
    · rw [if_neg (fun h => he h.2), Memory.read_write_ne v he]
  · rw [if_neg hk, if_neg (fun h => hk h.1)]

/-- A secondary cycle whose record reads. -/
theorem driveCycle_of_read (c : CycleInput) {d : Drive} (h : (romAt d.cpu.mcp).rw = .read) :
    driveCycle c d =
      { d with
          cpu := setLevels c.driveIrq c.driveNmi (tick (d.cpu.setCell (romAt d.cpu.mcp).dr
            (driveRead d c.driveAnswer (d.cpu.view (romAt d.cpu.mcp).ar)))),
          trace := d.trace ++ [BusEvent.access (d.cpu.view (romAt d.cpu.mcp).ar) .read
            (driveRead d c.driveAnswer (d.cpu.view (romAt d.cpu.mcp).ar)) (driveTarget (d.cpu.view (romAt d.cpu.mcp).ar))
            (isStreamRead (romAt d.cpu.mcp))] } := by
  unfold driveCycle
  dsimp only
  rw [h]

/-- A secondary cycle whose record writes. -/
theorem driveCycle_of_write (c : CycleInput) {d : Drive} (h : (romAt d.cpu.mcp).rw = .write) :
    driveCycle c d =
      { driveWrite d (d.cpu.view (romAt d.cpu.mcp).ar) (d.cpu.cell (romAt d.cpu.mcp).dr) with
          cpu := setLevels c.driveIrq c.driveNmi (tick d.cpu),
          trace := d.trace ++ [BusEvent.access (d.cpu.view (romAt d.cpu.mcp).ar) .write (d.cpu.cell (romAt d.cpu.mcp).dr)
            (driveTarget (d.cpu.view (romAt d.cpu.mcp).ar)) false] } := by
  unfold driveCycle
  dsimp only
  rw [h]
  dsimp only
  rw [driveWrite_cpu]

/-- A secondary cycle makes one bus access. -/
theorem driveCycle_trace_length (c : CycleInput) (d : Drive) : (driveCycle c d).trace.length = d.trace.length + 1 := by
  cases h : (romAt d.cpu.mcp).rw with
  | read => rw [driveCycle_of_read c h, List.length_append, List.length_singleton]
  | write => rw [driveCycle_of_write c h, List.length_append, List.length_singleton]

/-! Any number of consecutive cycles. -/

/-- After `n` cycles: the counter modulo 68, and one secondary access for each cycle that was no wrap of the counter. -/
theorem iterate_systemCycle_ratio (n : Nat) (s : State) :
    ((systemCycle [])^[n] s).secCnt.val = (s.secCnt.val + n) % 68 ∧
    ((systemCycle [])^[n] s).drive.trace.length + (s.secCnt.val + n) / 68 = s.drive.trace.length + n := by
  have hlt : s.secCnt.val < 68 := s.secCnt.isLt
  induction n with
  | zero => exact ⟨(Nat.mod_eq_of_lt hlt).symm, congrArg (s.drive.trace.length + ·) (Nat.div_eq_of_lt hlt)⟩
  | succ n ih =>
    obtain ⟨hcnt, htrace⟩ := ih
    obtain ⟨hcnt', hdrive⟩ := systemCycle_ratio [] ((systemCycle [])^[n] s)
    rw [Function.iterate_succ_apply', hcnt', hdrive]
    refine ⟨by omega, ?_⟩
    split
    · omega
    · rw [driveCycle_trace_length]
      omega

/-- Settles O59: the counter's period, by the number of wraps in 68 cycles, and the secondary cycle by its record. -/
theorem secondaryRatio : Obligations.SecondaryRatio := by
  refine ⟨systemCycle_ratio, fun s => ?_, ?_⟩
  · obtain ⟨hcnt, htrace⟩ := iterate_systemCycle_ratio 68 s
    have hlt : s.secCnt.val < 68 := s.secCnt.isLt
    exact ⟨Fin.ext (by omega), by omega⟩
  · rintro c d e r a kind rfl rfl rfl rfl
    rw [← driveKind_eq]
    refine ⟨fun b hr hb => ?_, fun hw => ?_⟩
    · have hread : driveRead d c.driveAnswer (d.cpu.view (romAt d.cpu.mcp).ar) = b := by
        rw [hb]
        rfl
      rw [driveCycle_of_read c hr, hread]
      exact ⟨rfl, rfl, by rw [List.map_append]; rfl⟩
    · rw [driveCycle_of_write c hw]
      refine ⟨rfl, fun x hx => driveWrite_ram_read _ _ hx, ?_, by rw [List.map_append]; rfl⟩
      by_cases hk : driveKind (d.cpu.view (romAt d.cpu.mcp).ar) = .ram
      · exact .inl hk
      · exact .inr ((driveWrite_ram _ _ _).trans (if_neg hk))

end Sys2Proof.Machine
end

section
/-! Results and flags of the operations (spec/41_load_store_transfer.md, spec/42_alu.md rules R284 to R286 and R292,
spec/43_shift_rmw.md rules R308 to R313, spec/45_stack_flags.md rules R352 to R360). -/

set_option Elab.async false

namespace Sys2Proof.Machine

/-! Which flags a chain of flag writes can change. -/

namespace OnlyFlags

variable {fs : List Flag} {p q : Byte}

theorem refl (fs : List Flag) (p : Byte) : OnlyFlags fs p p := fun _ _ => rfl

/-- A write of a listed flag changes no unlisted one. -/
theorem setFlag (h : OnlyFlags fs p q) (g : Flag) (on : Bool) (hg : g ∈ fs := by decide) :
    OnlyFlags fs p (setFlag q g on) := by
  intro f hf
  have hne : g ≠ f := fun heq => hf (heq ▸ hg)
  rw [flag_setFlag, if_neg hne.symm, h f hf]

end OnlyFlags

/-! Flag instructions (rules R354, R355, R358 to R360). -/

/-- A flag write on the register sets that flag and changes nothing else of the register file (rule R10). -/
theorem Cpu.setFlag_result (c : Cpu) (g : Flag) (on : Bool) :
    c.setFlag g on = { c with p := (c.setFlag g on).p } ∧ flag (c.setFlag g on).p g = on ∧
      OnlyFlags [g] c.p (c.setFlag g on).p :=
  ⟨rfl, (flag_setFlag c.p g g on).trans (if_pos rfl),
    (OnlyFlags.refl [g] c.p).setFlag g on (List.mem_singleton.mpr rfl)⟩

/-! BIT (rule R292). -/

theorem flag_bitTest_n (p a v : Byte) : flag (bitTest p a v) .n = v.getLsbD 7 := by
  simp [bitTest, flag_setFlag]

theorem flag_bitTest_v (p a v : Byte) : flag (bitTest p a v) .v = v.getLsbD 6 := by
  simp [bitTest, flag_setFlag]

theorem flag_bitTest_z (p a v : Byte) : flag (bitTest p a v) .z = decide (a &&& v = 0) := by
  simp [bitTest, flag_setFlag]

theorem bitTest_onlyFlags (p a v : Byte) : OnlyFlags [.n, .v, .z] p (bitTest p a v) :=
  (((OnlyFlags.refl _ p).setFlag .z _).setFlag .n _).setFlag .v _

/-- Settles O37. The loads, transfers, logic, increments and TXS are their rules' equations as defined; a flag instruction
is one flag write, and BIT three. -/
theorem operationResults : Obligations.OperationResults := by
  refine ⟨fun c => ⟨rfl, rfl, rfl, rfl, rfl, rfl, rfl, rfl, rfl, rfl, rfl, rfl, rfl, rfl, rfl, rfl, rfl, rfl⟩,
    fun c => ⟨fun op g on hrow => ?flagInstruction, ?bit, ?txs⟩⟩
  case flagInstruction =>
    have hop : op c = c.setFlag g on := by
      simp only [List.mem_cons, Prod.mk.injEq, List.not_mem_nil, or_false] at hrow
      obtain ⟨rfl, rfl, rfl⟩ | ⟨rfl, rfl, rfl⟩ | ⟨rfl, rfl, rfl⟩ | ⟨rfl, rfl, rfl⟩ | ⟨rfl, rfl, rfl⟩ := hrow <;> rfl
    rw [hop]
    exact c.setFlag_result g on
  case bit =>
    exact ⟨rfl, flag_bitTest_n c.p c.a c.d, flag_bitTest_v c.p c.a c.d, flag_bitTest_z c.p c.a c.d,
      bitTest_onlyFlags c.p c.a c.d⟩
  case txs => rfl

end Sys2Proof.Machine
end

section
/-! The arithmetic of the flags and of ADC, SBC and the compares (spec/42_alu.md rules R280 to R283, R293). -/

set_option Elab.async false

namespace Sys2Proof.Machine

/-! `set_nz` (rule R280). -/

/-- `set_nz` is a write of `N` and one of `Z`. -/
theorem takesNZ_setNZ (p v : Byte) : TakesNZ p (setNZ p v) v where
  negative := by simp [setNZ, flag_setFlag, BitVec.msb_eq_getLsbD_last]
  zero := by simp [setNZ, flag_setFlag]
  others f hn hz := by rw [setNZ, flag_setFlag, if_neg hz, flag_setFlag, if_neg hn]

/-- Settles O36. -/
theorem nzRule : Obligations.NzRule := takesNZ_setNZ

@[simp] theorem flag_setNZ_n (p v : Byte) : flag (setNZ p v) .n = v.getLsbD 7 := (takesNZ_setNZ p v).negative
@[simp] theorem flag_setNZ_z (p v : Byte) : flag (setNZ p v) .z = decide (v = 0) := (takesNZ_setNZ p v).zero
@[simp] theorem flag_setNZ_v (p v : Byte) : flag (setNZ p v) .v = flag p .v :=
  (takesNZ_setNZ p v).others .v (by decide) (by decide)
@[simp] theorem flag_setNZ_c (p v : Byte) : flag (setNZ p v) .c = flag p .c :=
  (takesNZ_setNZ p v).others .c (by decide) (by decide)

/-- `set_nz` changes no flag outside a list that holds `N` and `Z`. -/
theorem OnlyFlags.setNZ {fs : List Flag} {p q : Byte} (h : OnlyFlags fs p q) (v : Byte) (hn : .n ∈ fs := by decide)
    (hz : .z ∈ fs := by decide) : OnlyFlags fs p (setNZ q v) :=
  (h.setFlag .n _ hn).setFlag .z _ hz

/-! The compares (rule R283). -/

/-- The byte difference is the integer difference modulo 256. -/
theorem sub_eq_ofInt (r v : Byte) : r - v = BitVec.ofInt 8 ((r.toNat : Int) - v.toNat) := by
  apply BitVec.eq_of_toNat_eq
  rw [BitVec.toNat_sub, BitVec.toNat_ofInt]
  have := v.isLt
  omega

theorem flag_cmp8_c (p r v : Byte) : flag (cmp8 p r v) .c = decide (v ≤ r) := by
  simp [cmp8, flag_setFlag, BitVec.le_def]

theorem flag_cmp8_n (p r v : Byte) : flag (cmp8 p r v) .n = (r - v).getLsbD 7 := flag_setNZ_n _ _

theorem flag_cmp8_z (p r v : Byte) : flag (cmp8 p r v) .z = decide (r - v = 0) := flag_setNZ_z _ _

theorem cmp8_onlyFlags (p r v : Byte) : OnlyFlags [.n, .z, .c] p (cmp8 p r v) :=
  ((OnlyFlags.refl _ p).setFlag .c _).setNZ _

/-- Settles O41: the three compares are one function of the register and the operand. -/
theorem compareRule : Obligations.CompareRule := by
  intro c op r t hrow ht
  have hop : op c = { c with p := cmp8 c.p r c.d } := by
    simp only [List.mem_cons, Prod.mk.injEq, List.not_mem_nil, or_false] at hrow
    obtain ⟨rfl, rfl⟩ | ⟨rfl, rfl⟩ | ⟨rfl, rfl⟩ := hrow <;> rfl
  have hle : c.d ≤ r ↔ 0 ≤ t := by
    rw [BitVec.le_def]
    omega
  rw [hop, ht, ← sub_eq_ofInt, ← ht]
  refine ⟨rfl, ?carry, ?carryIff, flag_cmp8_n c.p r c.d, flag_cmp8_z c.p r c.d, cmp8_onlyFlags c.p r c.d⟩
  case carry => exact (flag_cmp8_c c.p r c.d).trans (decide_eq_decide.mpr hle)
  case carryIff => rw [flag_cmp8_c, decide_eq_true_iff]

/-! Nibbles and single bits as the rules write them. -/

theorem and_low_nibble (n : Nat) : n &&& 0x0F = n % 16 := Nat.and_two_pow_sub_one_eq_mod n 4

theorem shiftRight_nibble (n : Nat) : n >>> 4 = n / 16 := Nat.shiftRight_eq_div_pow n 4

theorem shiftLeft_nibble (n : Nat) : n <<< 4 = n * 16 := Nat.shiftLeft_eq n 4

/-- Two nibbles put together. -/
theorem shiftLeft_nibble_or (h l : Nat) : (h <<< 4 ||| l % 16) = h * 16 + l % 16 := by
  rw [← Nat.shiftLeft_add_eq_or_of_lt (Nat.mod_lt l (by decide)) h, shiftLeft_nibble]

/-- A masked bit is not 0 exactly when the bit is set. -/
theorem decide_and_two_pow_ne_zero (n i : Nat) : decide (n &&& 2 ^ i ≠ 0) = n.testBit i := by
  rw [Nat.and_two_pow]
  cases n.testBit i <;> simp

theorem carryNat_le_one (b : Bool) : carryNat b ≤ 1 := by cases b <;> decide

theorem ofNat8_eq_zero_iff (n : Nat) : BitVec.ofNat 8 n = 0 ↔ n % 256 = 0 := by
  rw [← BitVec.toNat_inj, BitVec.toNat_ofNat]
  rfl

/-! ADC (rule R281). -/

theorem adc8_of_binary {p : Byte} (h : flag p .d = false) (a v : Byte) : adc8 p a v = adcBinary p a v := by
  simp [adc8, h]

theorem adc8_of_decimal {p : Byte} (h : flag p .d = true) (a v : Byte) : adc8 p a v = adcDecimal p a v := by
  simp [adc8, h]

/-- The binary sum with the carry in. -/
def binarySum (p a v : Byte) : Nat := a.toNat + v.toNat + carryNat (flag p .c)

/-- The decimal adjustment of a nibble sum. -/
def decimalAdjust (n : Nat) : Nat := if n > 9 then n + 6 else n

/-- The adjusted sum of the low nibbles. -/
def adcLow (p a v : Byte) : Nat := decimalAdjust (a.toNat % 16 + v.toNat % 16 + carryNat (flag p .c))

/-- The sum of the high nibbles before its adjustment. -/
def adcHigh (p a v : Byte) : Nat := a.toNat / 16 + v.toNat / 16 + (if adcLow p a v > 0x0F then 1 else 0)

theorem adcBinary_fst (p a v : Byte) : (adcBinary p a v).1 = BitVec.ofNat 8 (binarySum p a v) := rfl

theorem flag_adcBinary_c (p a v : Byte) : flag (adcBinary p a v).2 .c = decide (binarySum p a v > 0xFF) := by
  simp [adcBinary, flag_setFlag, binarySum]

theorem flag_adcBinary_n (p a v : Byte) : flag (adcBinary p a v).2 .n = (binarySum p a v).testBit 7 :=
  (flag_setNZ_n _ _).trans (BitVec.getLsbD_ofNat 8 (binarySum p a v) 7)

theorem flag_adcBinary_z (p a v : Byte) : flag (adcBinary p a v).2 .z = decide (binarySum p a v % 256 = 0) :=
  (flag_setNZ_z _ _).trans (decide_eq_decide.mpr (ofNat8_eq_zero_iff _))

theorem flag_adcBinary_v (p a v : Byte) :
    flag (adcBinary p a v).2 .v = ((a ^^^ (adcBinary p a v).1) &&& (v ^^^ (adcBinary p a v).1)).getLsbD 7 := by
  simp [adcBinary, flag_setFlag, BitVec.msb_eq_getLsbD_last]

/-- The overflow of the binary sum in the arithmetic of natural numbers. -/
theorem flag_adcBinary_v_nat (p a v : Byte) : flag (adcBinary p a v).2 .v =
    decide ((a.toNat ^^^ binarySum p a v) &&& (v.toNat ^^^ binarySum p a v) &&& 0x80 ≠ 0) := by
  refine Eq.trans ?_ (decide_and_two_pow_ne_zero _ 7).symm
  rw [flag_adcBinary_v, adcBinary_fst]
  simp [-BitVec.getLsbD_eq_getElem, BitVec.getLsbD_ofNat, BitVec.testBit_toNat]

/-- Both operands differ in a bit from the sum exactly when they agree in it and the first differs from the sum. -/
theorem overflow_forms (a v r : Byte) :
    ((a ^^^ r) &&& (v ^^^ r)).getLsbD 7 = (~~~(a ^^^ v) &&& (a ^^^ r)).getLsbD 7 := by
  simp only [BitVec.getLsbD_and, BitVec.getLsbD_xor, BitVec.getLsbD_not]
  cases a.getLsbD 7 <;> cases v.getLsbD 7 <;> simp

theorem adcDecimal_fst (p a v : Byte) :
    (adcDecimal p a v).1 = BitVec.ofNat 8 (decimalAdjust (adcHigh p a v) * 16 + adcLow p a v % 16) := rfl

theorem flag_adcDecimal_c (p a v : Byte) :
    flag (adcDecimal p a v).2 .c = decide (decimalAdjust (adcHigh p a v) > 0x0F) :=
  (flag_setFlag _ .c .c _).trans (if_pos rfl)

theorem flag_adcDecimal_n (p a v : Byte) : flag (adcDecimal p a v).2 .n = (adcHigh p a v).testBit 3 := by
  simp only [adcDecimal, flag_setFlag]
  rfl

theorem flag_adcDecimal_v (p a v : Byte) : flag (adcDecimal p a v).2 .v =
    ((a ^^^ BitVec.ofNat 8 (adcHigh p a v * 16)) &&& ~~~(a ^^^ v)).getLsbD 7 := by
  simp only [adcDecimal, flag_setFlag, BitVec.msb_eq_getLsbD_last]
  rfl

theorem flag_adcDecimal_z (p a v : Byte) : flag (adcDecimal p a v).2 .z = decide (binarySum p a v % 256 = 0) := by
  simp only [adcDecimal, flag_setFlag]
  exact decide_eq_decide.mpr (ofNat8_eq_zero_iff _)

theorem adc8_onlyFlags (p a v : Byte) : OnlyFlags [.n, .v, .z, .c] p (adc8 p a v).2 := by
  cases h : flag p .d with
  | false =>
    rw [adc8_of_binary h]
    exact (((OnlyFlags.refl _ p).setFlag .v _).setFlag .c _).setNZ _
  | true =>
    rw [adc8_of_decimal h]
    exact ((((OnlyFlags.refl _ p).setFlag .z _).setFlag .n _).setFlag .v _).setFlag .c _

/-- Settles O38, mode by mode, with the rule's masks and shifts read as remainders and quotients. -/
theorem adcRule : Obligations.AdcRule := by
  refine ⟨?rule, by decide⟩
  rintro c0 a v t c rfl rfl rfl rfl
  refine ⟨rfl, adc8_onlyFlags c0.p c0.a c0.d, fun hd => ?binary, fun al ah hd hal hah => ?decimal⟩
  case binary =>
    simp only [opAdc, adc8_of_binary hd]
    exact ⟨BitVec.toNat_ofNat _ 8, flag_adcBinary_c c0.p c0.a c0.d, flag_adcBinary_v_nat c0.p c0.a c0.d,
      (flag_adcBinary_v c0.p c0.a c0.d).trans (overflow_forms c0.a c0.d _), flag_adcBinary_n c0.p c0.a c0.d,
      flag_adcBinary_z c0.p c0.a c0.d⟩
  case decimal =>
    simp only [and_low_nibble, shiftRight_nibble] at hal hah
    obtain rfl : al = adcLow c0.p c0.a c0.d := hal
    obtain rfl : ah = adcHigh c0.p c0.a c0.d := hah
    simp only [opAdc, adc8_of_decimal hd, and_low_nibble, shiftLeft_nibble_or]
    rw [shiftLeft_nibble]
    exact ⟨flag_adcDecimal_z c0.p c0.a c0.d,
      (flag_adcDecimal_n c0.p c0.a c0.d).trans (decide_and_two_pow_ne_zero _ 3).symm, flag_adcDecimal_v c0.p c0.a c0.d,
      flag_adcDecimal_c c0.p c0.a c0.d, adcDecimal_fst c0.p c0.a c0.d⟩

/-! SBC (rule R282). -/

/-- The decimal adjustment of a nibble difference, which keeps the borrow. -/
def borrowAdjust (n : Int) : Int := if n < 0 then (n - 6) % 16 - 0x10 else n

/-- The adjusted difference of the low nibbles. -/
def sbcLow (p a v : Byte) : Int :=
  borrowAdjust ((a.toNat : Int) % 16 - (v.toNat : Int) % 16 + carryNat (flag p .c) - 1)

/-- The decimal difference before its high-nibble adjustment. -/
def sbcMid (p a v : Byte) : Int :=
  ((a.toNat : Int) - (a.toNat : Int) % 16) - ((v.toNat : Int) - (v.toNat : Int) % 16) + sbcLow p a v

theorem sbcDecimalResult_eq (p a v : Byte) : sbcDecimalResult p a v =
    BitVec.ofInt 8 (if sbcMid p a v < 0 then sbcMid p a v - 0x60 else sbcMid p a v) := by
  have hhigh (b : Byte) : ((b.toNat / 16 * 16 : Nat) : Int) = (b.toNat : Int) - (b.toNat : Int) % 16 := by omega
  simp only [sbcDecimalResult, hhigh, Int.natCast_mod]
  rfl

theorem sbc8_fst_of_binary {p : Byte} (h : flag p .d = false) (a v : Byte) :
    (sbc8 p a v).1 = BitVec.ofInt 8 (sbcDifference p a v) := by
  simp [sbc8, h]

theorem sbc8_fst_of_decimal {p : Byte} (h : flag p .d = true) (a v : Byte) :
    (sbc8 p a v).1 = sbcDecimalResult p a v := by
  simp [sbc8, h]

theorem flag_sbc8_c (p a v : Byte) : flag (sbc8 p a v).2 .c = decide (0 ≤ sbcDifference p a v) := by
  simp [sbc8, flag_setFlag]

theorem flag_sbc8_n (p a v : Byte) : flag (sbc8 p a v).2 .n = (BitVec.ofInt 8 (sbcDifference p a v)).getLsbD 7 :=
  flag_setNZ_n _ _

theorem flag_sbc8_z (p a v : Byte) : flag (sbc8 p a v).2 .z = decide (BitVec.ofInt 8 (sbcDifference p a v) = 0) :=
  flag_setNZ_z _ _

theorem flag_sbc8_v (p a v : Byte) : flag (sbc8 p a v).2 .v =
    ((a ^^^ v) &&& (a ^^^ BitVec.ofInt 8 (sbcDifference p a v))).getLsbD 7 := by
  simp [sbc8, flag_setFlag, BitVec.msb_eq_getLsbD_last]

theorem sbc8_onlyFlags (p a v : Byte) : OnlyFlags [.n, .v, .z, .c] p (sbc8 p a v).2 :=
  (((OnlyFlags.refl _ p).setFlag .v _).setFlag .c _).setNZ _

/-- Settles O39: the flags are one computation in both modes, and only `A` depends on the mode. -/
theorem sbcRule : Obligations.SbcRule := by
  rintro c0 a v c t b rfl rfl rfl rfl rfl
  refine ⟨rfl, sbc8_onlyFlags c0.p c0.a c0.d, flag_sbc8_c c0.p c0.a c0.d, flag_sbc8_n c0.p c0.a c0.d,
    flag_sbc8_z c0.p c0.a c0.d, flag_sbc8_v c0.p c0.a c0.d, fun hd => sbc8_fst_of_binary hd c0.a c0.d,
    fun al r hd hal hr => ?decimal⟩
  obtain rfl : al = sbcLow c0.p c0.a c0.d := hal
  obtain rfl : r = sbcMid c0.p c0.a c0.d := hr
  exact (sbc8_fst_of_decimal hd c0.a c0.d).trans (sbcDecimalResult_eq c0.p c0.a c0.d)

/-! Decimal arithmetic on decimal operands (rules R281, R282, R293). -/

theorem isBcd_iff {b : Byte} : isBcd b = true ↔ b.toNat / 16 ≤ 9 ∧ b.toNat % 16 ≤ 9 := by
  simp [isBcd]

/-- A byte of two decimal digits. -/
theorem isBcd_of_digits {b : Byte} {h l : Nat} (hh : h ≤ 9) (hl : l ≤ 9) (hb : b.toNat = h * 16 + l) :
    isBcd b = true ∧ bcdValue b = h * 10 + l := by
  have hdiv : b.toNat / 16 = h := by omega
  have hmod : b.toNat % 16 = l := by omega
  rw [isBcd_iff, bcdValue, hdiv, hmod]
  exact ⟨⟨hh, hl⟩, rfl⟩

theorem carryNat_decide (P : Prop) [Decidable P] : carryNat (decide P) = if P then 1 else 0 := by
  by_cases h : P <;> simp [carryNat, h]

/-- The adjusted sum of two digits and a carry: its low nibble is the decimal digit, and it passes 15 exactly when there is a
decimal carry. -/
theorem decimalAdjust_digit {n : Nat} (h : n ≤ 19) :
    decimalAdjust n % 16 ≤ 9 ∧ decimalAdjust n % 16 + 10 * (if decimalAdjust n > 0x0F then 1 else 0) = n := by
  unfold decimalAdjust
  by_cases hn : n > 9
  · rw [if_pos hn, if_pos (by omega)]
    omega
  · rw [if_neg hn, if_neg (by omega)]
    omega

/-- Decimal ADC adds digit by digit: each nibble's adjusted sum is its digit and its carry. -/
theorem adcDecimal_bcd {p a v : Byte} (ha : isBcd a = true) (hv : isBcd v = true) :
    isBcd (adcDecimal p a v).1 = true ∧
    bcdValue (adcDecimal p a v).1 + 100 * carryNat (flag (adcDecimal p a v).2 .c) =
      bcdValue a + bcdValue v + carryNat (flag p .c) := by
  obtain ⟨hah, hal⟩ := isBcd_iff.mp ha
  obtain ⟨hvh, hvl⟩ := isBcd_iff.mp hv
  have hc := carryNat_le_one (flag p .c)
  have hcarry : (if adcLow p a v > 0x0F then 1 else 0) ≤ 1 := by split <;> decide
  obtain ⟨hlow, hlowSum⟩ := decimalAdjust_digit (n := a.toNat % 16 + v.toNat % 16 + carryNat (flag p .c)) (by omega)
  rw [← adcLow] at hlow hlowSum
  have hhighEq : adcHigh p a v = a.toNat / 16 + v.toNat / 16 + (if adcLow p a v > 0x0F then 1 else 0) := rfl
  obtain ⟨hhigh, hhighSum⟩ := decimalAdjust_digit (n := adcHigh p a v) (by omega)
  obtain ⟨hbcd, hvalue⟩ := isBcd_of_digits (b := (adcDecimal p a v).1) hhigh hlow (by
    rw [adcDecimal_fst, BitVec.toNat_ofNat]
    omega)
  refine ⟨hbcd, ?_⟩
  rw [hvalue, flag_adcDecimal_c, carryNat_decide, bcdValue, bcdValue]
  omega

/-- A difference of two digits and a borrow is a digit, less 10 when it borrows in turn. -/
theorem exists_digit_borrow {n : Int} (hmin : -10 ≤ n) (hmax : n ≤ 9) :
    ∃ d k : Nat, d ≤ 9 ∧ k ≤ 1 ∧ n = d - 10 * k := by
  by_cases hn : n < 0
  · exact ⟨(n + 10).toNat, 1, by omega, le_rfl, by omega⟩
  · exact ⟨n.toNat, 0, by omega, by decide, by omega⟩

/-- The low-nibble adjustment turns the decimal borrow into a borrow of 16. -/
theorem borrowAdjust_digit {d k : Nat} (hd : d ≤ 9) (hk : k ≤ 1) : borrowAdjust (d - 10 * k : Int) = d - 16 * k := by
  unfold borrowAdjust
  split <;> omega

/-- Decimal SBC subtracts digit by digit: `e`, `d` are the digits of the difference and `j`, `k` their borrows. -/
theorem sbc8_bcd {p a v : Byte} (hd : flag p .d = true) (ha : isBcd a = true) (hv : isBcd v = true) :
    isBcd (sbc8 p a v).1 = true ∧
    bcdValue (sbc8 p a v).1 + bcdValue v + (1 - carryNat (flag p .c)) =
      bcdValue a + 100 * (1 - carryNat (flag (sbc8 p a v).2 .c)) := by
  obtain ⟨hah, hal⟩ := isBcd_iff.mp ha
  obtain ⟨hvh, hvl⟩ := isBcd_iff.mp hv
  have hc := carryNat_le_one (flag p .c)
  obtain ⟨d, k, hd9, hk, hlow⟩ := exists_digit_borrow
    (n := (a.toNat : Int) % 16 - (v.toNat : Int) % 16 + carryNat (flag p .c) - 1) (by omega) (by omega)
  obtain ⟨e, j, he9, hj, hhigh⟩ := exists_digit_borrow (n := (a.toNat : Int) / 16 - (v.toNat : Int) / 16 - k) (by omega)
    (by omega)
  have hmid : sbcMid p a v = 16 * e + d - 160 * j := by
    rw [sbcMid, sbcLow, hlow, borrowAdjust_digit hd9 hk]
    omega
  have hadjusted : (if sbcMid p a v < 0 then sbcMid p a v - 0x60 else sbcMid p a v) = 16 * e + d - 256 * j := by
    split <;> omega
  have hresult : (sbc8 p a v).1.toNat = e * 16 + d := by
    rw [sbc8_fst_of_decimal hd, sbcDecimalResult_eq, hadjusted, BitVec.toNat_ofInt]
    show ((16 * e + d - 256 * j : Int) % 256).toNat = _
    omega
  have hborrow : 1 - carryNat (flag (sbc8 p a v).2 .c) = j := by
    rw [flag_sbc8_c, carryNat_decide, sbcDifference]
    split <;> omega
  obtain ⟨hbcd, hvalue⟩ := isBcd_of_digits he9 hd9 hresult
  refine ⟨hbcd, ?_⟩
  rw [hvalue, hborrow, bcdValue, bcdValue]
  omega

/-- Settles O40, by the digits of the sum and of the difference. -/
theorem decimalIsDecimal : Obligations.DecimalIsDecimal := by
  refine ⟨fun c hd ha hv => ?add, fun c hd ha hv => sbc8_bcd hd ha hv⟩
  simp only [opAdc, adc8_of_decimal hd]
  exact adcDecimal_bcd ha hv

end Sys2Proof.Machine
end

section
/-! The shift and rotate helpers (spec/43_shift_rmw.md rules R300 to R303). -/

set_option Elab.async false

namespace Sys2Proof.Machine

/-! The shifted byte as a number; the carry in enters on the bit that the shift frees. -/

theorem shiftLeft_one_toNat (v : Byte) : (v <<< 1).toNat = 2 * v.toNat % 256 := by
  rw [BitVec.toNat_shiftLeft, Nat.shiftLeft_eq, Nat.mul_comm]

theorem shiftRight_one_toNat (v : Byte) : (v >>> 1).toNat = v.toNat / 2 := Nat.shiftRight_eq_div_pow v.toNat 1

theorem carryIn_low_toNat (b : Bool) : (if b then 0x01 else 0x00 : Byte).toNat = carryNat b := by cases b <;> rfl

theorem carryIn_high_toNat (b : Bool) : (if b then 0x80 else 0x00 : Byte).toNat = 2 ^ 7 * carryNat b := by
  cases b <;> rfl

theorem asl8_fst_toNat (p v : Byte) : (asl8 p v).1.toNat = 2 * v.toNat % 256 := shiftLeft_one_toNat v

theorem lsr8_fst_toNat (p v : Byte) : (lsr8 p v).1.toNat = v.toNat / 2 := shiftRight_one_toNat v

/-- Bit 0 of the shifted byte is free, so the `or` with the carry is a sum. -/
theorem rol8_fst_toNat (p v : Byte) : (rol8 p v).1.toNat = (2 * v.toNat + carryNat (flag p .c)) % 256 := by
  have hcarry := carryNat_le_one (flag p .c)
  have heven : 2 * v.toNat % 256 = 2 ^ 1 * (v.toNat % 128) := by omega
  rw [rol8, BitVec.toNat_or, shiftLeft_one_toNat, carryIn_low_toNat, heven,
    ← Nat.two_pow_add_eq_or_of_lt (by omega)]
  omega

/-- Bit 7 of the shifted byte is free, so the `or` with the carry is a sum. -/
theorem ror8_fst_toNat (p v : Byte) : (ror8 p v).1.toNat = v.toNat / 2 + 128 * carryNat (flag p .c) := by
  have hv := v.isLt
  rw [ror8, BitVec.toNat_or, shiftRight_one_toNat, carryIn_high_toNat, Nat.or_comm,
    ← Nat.two_pow_add_eq_or_of_lt (by omega), Nat.add_comm]

/-- The flags of every shift: `C` takes the bit shifted out and no other flag changes. -/
theorem setFlag_carryOut (p : Byte) (out : Bool) :
    flag (setFlag p .c out) .c = out ∧ OnlyFlags [.c] p (setFlag p .c out) :=
  ⟨(flag_setFlag p .c .c out).trans (if_pos rfl), (OnlyFlags.refl [.c] p).setFlag .c out⟩

/-- Settles O42: the four results as numbers, and one fact about the carry out. -/
theorem shiftRule : Obligations.ShiftRule := by
  rintro p v c rfl
  exact ⟨⟨asl8_fst_toNat p v, setFlag_carryOut p (v.getLsbD 7)⟩, ⟨lsr8_fst_toNat p v, setFlag_carryOut p (v.getLsbD 0)⟩,
    ⟨rol8_fst_toNat p v, setFlag_carryOut p (v.getLsbD 7)⟩, ⟨ror8_fst_toNat p v, setFlag_carryOut p (v.getLsbD 0)⟩⟩

end Sys2Proof.Machine
end

section
/-! The undocumented operations (spec/46_undocumented.md): the combined ones as one documented operation after another
(rules R370 to R379), ARR (rule R380), and the results of the others (rules R378, R381 to R385). -/

set_option Elab.async false

namespace Sys2Proof.Machine

/-! Flag writes as an algebra (rules R10, R280): what a write leaves of the writes before it. -/

/-- `P` is its eight flags (rule R30). -/
theorem eq_of_flag_eq {p q : Byte} (h : ∀ f, flag p f = flag q f) : p = q := by
  refine BitVec.eq_of_getLsbD_eq fun i hi => ?_
  have hbits : ∀ j < 8, ∃ f ∈ [Flag.n, .v, .u, .b, .d, .i, .z, .c], f.bit = j := by decide
  obtain ⟨f, -, rfl⟩ := hbits i hi
  exact h f

theorem setFlag_comm (p : Byte) {f g : Flag} (h : f ≠ g) (x y : Bool) :
    setFlag (setFlag p f x) g y = setFlag (setFlag p g y) f x := by
  refine eq_of_flag_eq fun k => ?_
  simp only [flag_setFlag]
  by_cases hk : k = f
  · rw [if_pos hk, if_pos hk, if_neg (hk ▸ h)]
  · rw [if_neg hk, if_neg hk]

theorem setFlag_setFlag (p : Byte) (f : Flag) (x y : Bool) : setFlag (setFlag p f x) f y = setFlag p f y := by
  refine eq_of_flag_eq fun k => ?_
  simp only [flag_setFlag]
  split <;> rfl

/-- Writes of `Z` and `N` leave nothing of a `set_nz` before them. -/
theorem setFlag_zn_setNZ (p v : Byte) (z n : Bool) :
    setFlag (setFlag (setNZ p v) .z z) .n n = setFlag (setFlag p .z z) .n n := by
  rw [setNZ, setFlag_setFlag, setFlag_comm p (by decide), setFlag_setFlag]

/-- Of two `set_nz` the second stands. -/
theorem setNZ_setNZ (p v w : Byte) : setNZ (setNZ p v) w = setNZ p w := by
  rw [setNZ, setFlag_comm _ (by decide), setFlag_zn_setNZ, setFlag_comm p (by decide), ← setNZ]

/-- A write of another flag and a `set_nz` can change places. -/
theorem setFlag_setNZ (p v : Byte) {f : Flag} (hn : .n ≠ f) (hz : .z ≠ f) (x : Bool) :
    setFlag (setNZ p v) f x = setNZ (setFlag p f x) v := by
  rw [setNZ, setFlag_comm _ hz, setFlag_comm p hn, ← setNZ]

theorem setFlag_c_setNZ (p v : Byte) (x : Bool) : setFlag (setNZ p v) .c x = setNZ (setFlag p .c x) v :=
  setFlag_setNZ p v (by decide) (by decide) x

theorem setFlag_v_setNZ (p v : Byte) (x : Bool) : setFlag (setNZ p v) .v x = setNZ (setFlag p .v x) v :=
  setFlag_setNZ p v (by decide) (by decide) x

@[simp] theorem flag_setNZ_d (p v : Byte) : flag (setNZ p v) .d = flag p .d :=
  (takesNZ_setNZ p v).others .d (by decide) (by decide)

/-! The flag computations read neither `N` nor `Z` and end by writing both, so a `set_nz` before them is lost. -/

theorem cmp8_setNZ (p w r v : Byte) : cmp8 (setNZ p w) r v = cmp8 p r v := by
  rw [cmp8, setFlag_c_setNZ, setNZ_setNZ, ← cmp8]

theorem adcBinary_setNZ (p w a v : Byte) : adcBinary (setNZ p w) a v = adcBinary p a v := by
  simp only [adcBinary, flag_setNZ_c, setFlag_v_setNZ, setFlag_c_setNZ, setNZ_setNZ]

theorem adcDecimal_setNZ (p w a v : Byte) : adcDecimal (setNZ p w) a v = adcDecimal p a v := by
  simp only [adcDecimal, flag_setNZ_c, setFlag_zn_setNZ]

theorem adc8_setNZ (p w a v : Byte) : adc8 (setNZ p w) a v = adc8 p a v := by
  rw [adc8, flag_setNZ_d, adcDecimal_setNZ, adcBinary_setNZ, ← adc8]

theorem sbcDifference_setNZ (p w a v : Byte) : sbcDifference (setNZ p w) a v = sbcDifference p a v := by
  rw [sbcDifference, flag_setNZ_c, ← sbcDifference]

theorem sbcDecimalResult_setNZ (p w a v : Byte) : sbcDecimalResult (setNZ p w) a v = sbcDecimalResult p a v := by
  simp only [sbcDecimalResult, flag_setNZ_c]

theorem sbc8_setNZ (p w a v : Byte) : sbc8 (setNZ p w) a v = sbc8 p a v := by
  simp only [sbc8, sbcDifference_setNZ, sbcDecimalResult_setNZ, flag_setNZ_d, setFlag_v_setNZ, setFlag_c_setNZ,
    setNZ_setNZ]

/-- The shift takes `C` alone, so a `set_nz` before it stands until the next. -/
theorem lsr8_setNZ (p w v : Byte) : lsr8 (setNZ p w) v = ((lsr8 p v).1, setNZ (lsr8 p v).2 w) :=
  congrArg (Prod.mk (v >>> 1)) (setFlag_c_setNZ p w (v.getLsbD 0))

/-- Settles O43. The registers agree as defined; of the flags, the first operation's `set_nz` is lost in the second. -/
theorem combinedOperations : Obligations.CombinedOperations := by
  intro c
  refine ⟨?slo, ?rla, ?sre, ?rra, ?dcp, ?isc, ?lax, ?alr⟩
  case slo => simp only [opSlo, opOra, shiftD, setNZ_setNZ]
  case rla => simp only [opRla, opAnd, shiftD, setNZ_setNZ]
  case sre => simp only [opSre, opEor, shiftD, setNZ_setNZ]
  case rra => simp only [opRra, opAdc, shiftD, adc8_setNZ]
  case dcp => simp only [opDcp, opCmp, opDec, cmp8_setNZ]
  case isc => simp only [opIsc, opSbc, opInc, sbc8_setNZ]
  case lax => simp only [opLax, opLdx, opLda, setNZ_setNZ]
  case alr => simp only [opAlr, shiftA, opAnd, lsr8_setNZ, setNZ_setNZ]

/-! ARR (rule R380). `(ror8 p t).1` is the rule's `r`. -/

/-- The rotated byte as the rule writes it, on natural numbers. -/
theorem ror8_fst_eq_ofNat (p t : Byte) :
    (ror8 p t).1 = BitVec.ofNat 8 (t.toNat >>> 1 ||| carryNat (flag p .c) <<< 7) := by
  have hcarry : (if flag p .c then 0x80 else 0x00 : Byte) = BitVec.ofNat 8 (carryNat (flag p .c) <<< 7) := by
    cases flag p .c <;> rfl
  have hshift : t >>> 1 = BitVec.ofNat 8 (t.toNat >>> 1) := by
    rw [← BitVec.toNat_ushiftRight, BitVec.ofNat_toNat, BitVec.setWidth_eq]
  rw [ror8, hcarry, hshift, BitVec.ofNat_or]

/-- A masked bit of a byte is not 0 exactly when the bit is set. -/
theorem decide_and_bit6_ne_zero (v : Byte) : decide (v &&& 0x40 ≠ 0) = v.getLsbD 6 := by
  refine Eq.trans (decide_eq_decide.mpr ?_) (decide_and_two_pow_ne_zero v.toNat 6)
  rw [Ne, ← BitVec.toNat_inj]
  rfl

theorem arr8_of_binary {p : Byte} (h : flag p .d = false) (t : Byte) : arr8 p t = arrBinary p t := by simp [arr8, h]

theorem arr8_of_decimal {p : Byte} (h : flag p .d = true) (t : Byte) : arr8 p t = arrDecimal p t := by simp [arr8, h]

/-- Binary ARR is the rotated byte and three flag writes, of which `set_nz` can stand last. -/
theorem arrBinary_eq (p t : Byte) : arrBinary p t =
    ((ror8 p t).1, setNZ (setFlag (setFlag p .c ((ror8 p t).1.getLsbD 6)) .v
      ((ror8 p t).1.getLsbD 6 ^^ (ror8 p t).1.getLsbD 5)) (ror8 p t).1) := by
  rw [← setFlag_v_setNZ, ← setFlag_c_setNZ]
  rfl

/-- The low-nibble adjustment of decimal ARR (rule R380), on `t` and the rotated byte `r`. -/
def arrLow (t r : Byte) : Byte :=
  if (t.toNat &&& 0x0F) + (t.toNat &&& 0x01) > 5 then (r &&& 0xF0) ||| ((r + 6) &&& 0x0F) else r

/-- Decimal ARR is one result and four flag writes; the high adjustment and `C` turn on the one condition. -/
theorem arrDecimal_eq (p t : Byte) : arrDecimal p t =
    ((if (t.toNat &&& 0xF0) + (t.toNat &&& 0x10) > 0x50 then arrLow t (ror8 p t).1 + 0x60 else arrLow t (ror8 p t).1),
      setFlag (setFlag (setFlag (setFlag p .n (flag p .c)) .z (decide ((ror8 p t).1 = 0))) .v
        ((t ^^^ (ror8 p t).1).getLsbD 6)) .c (decide ((t.toNat &&& 0xF0) + (t.toNat &&& 0x10) > 0x50))) := by
  by_cases h : (t.toNat &&& 0xF0) + (t.toNat &&& 0x10) > 0x50
  · rw [if_pos h, decide_eq_true h]
    exact if_pos h
  · rw [if_neg h, decide_eq_false h]
    exact if_neg h

theorem arr8_onlyFlags (p t : Byte) : OnlyFlags [.n, .v, .z, .c] p (arr8 p t).2 := by
  cases h : flag p .d with
  | false =>
    rw [arr8_of_binary h, arrBinary_eq]
    exact (((OnlyFlags.refl _ p).setFlag .c _).setFlag .v _).setNZ _
  | true =>
    rw [arr8_of_decimal h, arrDecimal_eq]
    exact ((((OnlyFlags.refl _ p).setFlag .n _).setFlag .z _).setFlag .v _).setFlag .c _

/-- Settles O44, mode by mode. -/
theorem arrRule : Obligations.ArrRule := by
  rintro c0 t r c rfl rfl hr
  obtain rfl : r = (ror8 c0.p (c0.a &&& c0.d)).1 := hr.trans (ror8_fst_eq_ofNat c0.p (c0.a &&& c0.d)).symm
  refine ⟨rfl, arr8_onlyFlags c0.p (c0.a &&& c0.d), fun hd => ?binary, fun r1 hd hr1 => ?decimal⟩
  case binary =>
    simp only [opArr, arr8_of_binary hd, arrBinary_eq, flag_setNZ_c, flag_setNZ_v, flag_setFlag]
    exact ⟨trivial, flag_setNZ_n _ _, flag_setNZ_z _ _, rfl, rfl⟩
  case decimal =>
    obtain rfl : r1 = arrLow (c0.a &&& c0.d) (ror8 c0.p (c0.a &&& c0.d)).1 := hr1
    simp only [opArr, arr8_of_decimal hd, arrDecimal_eq, flag_setFlag, decide_and_bit6_ne_zero]
    exact ⟨rfl, rfl, rfl, rfl, trivial⟩

/-! ANC, ANE, LXA, SBX, LAS (rules R378, R381 to R383, R385). -/

/-- ANC: `C` is written after `set_nz` and is no part of it. -/
theorem opAnc_result (c : Cpu) :
    opAnc c = { c with a := c.a &&& c.d, p := (opAnc c).p } ∧ flag (opAnc c).p .c = (c.a &&& c.d).getLsbD 7 ∧
      flag (opAnc c).p .n = (c.a &&& c.d).getLsbD 7 ∧ flag (opAnc c).p .z = decide (c.a &&& c.d = 0) ∧
      OnlyFlags [.n, .z, .c] c.p (opAnc c).p := by
  have hp : (opAnc c).p = setNZ (setFlag c.p .c (c.a &&& c.d).msb) (c.a &&& c.d) := setFlag_c_setNZ c.p _ _
  refine ⟨rfl, ?carry, hp ▸ flag_setNZ_n _ _, hp ▸ flag_setNZ_z _ _, ((OnlyFlags.refl _ c.p).setNZ _).setFlag .c _⟩
  case carry =>
    rw [hp, flag_setNZ_c, flag_setFlag, if_pos rfl, BitVec.msb_eq_getLsbD_last]

/-- SBX sets the flags of a compare of `A & X` with the operand, and keeps the difference. -/
theorem sbx8_eq (p ax v : Byte) : sbx8 p ax v = (ax - v, cmp8 p ax v) := rfl

/-- Settles O45: ANE, LXA and LAS end in one `set_nz`, ANC in `set_nz` and `C`, SBX in the flags of a compare. -/
theorem undocumentedResult : Obligations.UndocumentedResult := by
  rintro c r ne lx sb la rfl rfl rfl rfl rfl
  refine ⟨opAnc_result c, ⟨rfl, takesNZ_setNZ c.p _⟩, ⟨rfl, takesNZ_setNZ c.p _⟩, ?sbx, ⟨rfl, takesNZ_setNZ c.p _⟩⟩
  case sbx =>
    simp only [opSbx, sbx8_eq]
    exact ⟨trivial, (flag_cmp8_c c.p _ c.d).trans (decide_eq_decide.mpr BitVec.le_def), flag_cmp8_n c.p _ c.d,
      flag_cmp8_z c.p _ c.d, cmp8_onlyFlags c.p _ c.d⟩

end Sys2Proof.Machine
end


section
/-! The level setters (spec/60_exceptions.md rules R420, R421) and the host's `resume` on either system (rules R451, R455). -/

set_option Elab.async false

namespace Sys2Proof.Machine

/-! `set_irq` by level and by the state of the machine (rule R420). -/

theorem setIrq_low (c : Cpu) : setIrq false c = { c with irqT := .idle } := rfl

theorem setIrq_high_of_idle {c : Cpu} (h : c.irqT = .idle) : setIrq true c = { c with irqT := .requested } := if_pos h

theorem setIrq_high_of_ne_idle {c : Cpu} (h : c.irqT ≠ .idle) : setIrq true c = c := if_neg h

/-! `set_nmi` (rule R421): a request is made by a rising level that finds the machine idle, and by nothing else. -/

theorem setNmi_frame (level : Bool) (c : Cpu) :
    setNmi level c = { c with nmiT := (setNmi level c).nmiT, nmiLine := level } := by rw [setNmi_eq]

theorem setNmi_nmiT (level : Bool) (c : Cpu) :
    (setNmi level c).nmiT = if level = true ∧ c.nmiLine = false ∧ c.nmiT = .idle then .requested else c.nmiT := by
  rw [setNmi_eq]

/-! What takes an NMI request away (rules R199, R421, R470, R471). -/

/-- The setters end no NMI request: no call of `set_nmi` makes the machine idle. -/
theorem nmiT_idle_of_setLevels {irq nmi : Bool} {c : Cpu} (h : (setLevels irq nmi c).nmiT = .idle) : c.nmiT = .idle := by
  rw [setLevels_nmiT] at h
  split at h
  · exact nomatch h
  · exact h

/-- Outside `brk_vec` a tick ends no NMI request, whether it advances the machine or holds it (rules R173, R422). -/
theorem nmiT_idle_of_tick {c : Cpu} (htag : (romAt c.mcp).tag ≠ .brkVec) (h : (tick c).nmiT = .idle) : c.nmiT = .idle := by
  rw [tick_nmiT htag] at h
  split at h
  · exact h
  · exact (advance_eq_idle _).mp h

/-- Outside `brk_vec` a system cycle ends no NMI request: a withheld one has no tick, and the others one. -/
theorem nmiT_idle_of_systemCycle {feed : List Byte} {s : State} (htag : (romAt s.cpu.mcp).tag ≠ .brkVec)
    (h : (systemCycle feed s).cpu.nmiT = .idle) : s.cpu.nmiT = .idle := by
  rw [systemCycle_cpu] at h
  have hticked : (s.ticked feed).nmiT = .idle := nmiT_idle_of_setLevels h
  cases hbw : (nextInput s).bw with
  | true =>
    rwa [← accessed_cpu, accessed_of_withheld hbw] at hticked
  | false =>
    obtain ⟨c, htick, hmcp, hsame⟩ := ticked_of_not_withheld hbw feed
    rw [htick] at hticked
    rw [← hsame.nmiT]
    exact nmiT_idle_of_tick (by rwa [hmcp]) hticked

/-- A warm reset's engine is that of rule R471, whatever the cartridge's callback notifies. -/
theorem warmReset_cpu (cart : Option CartLines) (s : State) : (warmReset cart s).cpu = warmResetCpu s.cpu := by
  rw [warmReset, notifyCart_cpu, recompute_cpu]

/-- Both resets of the primary system end an NMI request. -/
theorem nmiT_reset (cart : Option CartLines) (s : State) :
    (applyHost (.warmReset cart) s).cpu.nmiT = .idle ∧ (applyHost (.coldReset cart) s).cpu.nmiT = .idle := by
  refine ⟨?warm, ?cold⟩
  case warm =>
    show (warmReset cart s).cpu.nmiT = .idle
    rw [warmReset_cpu, warmResetCpu_nmiT]
  case cold =>
    show (coldReset cart s).cpu.nmiT = .idle
    rw [coldReset, warmReset_cpu, warmResetCpu_nmiT]

/-- Settles O46: each setter by cases, both called by every cycle on what its tick left, and `brk_vec` the one tag that ends
an NMI request. -/
theorem settersRule : Obligations.SettersRule := by
  refine ⟨⟨fun c => ⟨setIrq_low c, setIrq_high_of_idle, setIrq_high_of_ne_idle⟩, systemCycle_cpu⟩,
    fun c level => ⟨setNmi_frame level c, fun hedge => ?edge, fun hnone => ?noEdge⟩,
    fun feed s => ⟨systemCycle_cpu feed s, fun hreq hidle => ?consumed⟩, fun s cart => nmiT_reset cart s⟩
  case edge => rw [setNmi_nmiT, if_pos hedge]
  case noEdge => rw [setNmi_nmiT, if_neg hnone]
  case consumed => exact by_contra fun htag => hreq (nmiT_idle_of_systemCycle htag hidle)

/-- `resume` in one record update: the cursor leaves the halt slot, and stays where it is in an engine not halted (rule
R451). -/
theorem resumeCpu_eq (c : Cpu) : resumeCpu c = { c with mcp := if isHalted c.mcp then 207 else c.mcp } := by
  unfold resumeCpu
  split <;> rfl

/-- Settles O56: a step that begins with a queued `resume` is that operation, and the record it resumes at is a plain
dispatch. -/
theorem resumeRule : Obligations.ResumeRule := by
  refine ⟨fun s rest h => ?primary, fun s rest h => ?secondary, by decide +kernel, by decide +kernel, by decide +kernel⟩
  case primary =>
    rw [step_host h, ← resumeCpu_eq]
    rfl
  case secondary =>
    rw [step_host h, ← resumeCpu_eq]
    rfl

end Sys2Proof.Machine
end

section
/-! The warm reset of the primary system, from any state (spec/70_reset_and_hazards.md rule R471). -/

namespace Sys2Proof.Machine

/-- A notification straight after a recompute of `CFG`: the lines are the notified ones, or as they were, and one recompute
answers for both (rules R46, R97). -/
theorem notifyCart_recompute (s : State) (cart : Option CartLines) :
    notifyCart (recompute s) cart =
      recompute { s with exrom := (cart.map CartLines.exrom).getD s.exrom,
                         game := (cart.map CartLines.game).getD s.game } := by
  cases cart with
  | none => rfl
  | some l => rfl

/-- The warm reset in one record update: every field it does not name is kept (rule R471). -/
theorem warmReset_eq (cart : Option CartLines) (s : State) :
    warmReset cart s =
      recompute { s with cpu := { s.cpu with p := s.cpu.p ||| 0x34, nmiT := .idle, irqT := .idle, brkSrcs := 0,
                                             mcp := 208 },
                         ddr := 0x00, pdata := 0x00,
                         exrom := (cart.map CartLines.exrom).getD s.exrom,
                         game := (cart.map CartLines.game).getD s.game } := by
  rw [warmReset, notifyCart_recompute, warmResetCpu_eq]

/-- Settles O57: a step that begins with a queued warm reset is that operation, with the lines of its notification, if any;
the record it goes to is not the halt slot. -/
theorem warmResetRule : Obligations.WarmResetRule := by
  intro s rest cart exrom game hqueue hexrom hgame
  refine ⟨?reset, by decide⟩
  case reset =>
    have hlines : exrom = (cart.map CartLines.exrom).getD s.exrom ∧ game = (cart.map CartLines.game).getD s.game := by
      cases cart with
      | none => exact ⟨hexrom, hgame⟩
      | some l => exact ⟨hexrom, hgame⟩
    obtain ⟨rfl, rfl⟩ := hlines
    rw [step_host hqueue, applyHost, hostEffect, warmReset_eq]
    rfl

end Sys2Proof.Machine
end
